-- ==== Sys2Proof/Word.lean ====
section
/-! DEFINITION. The words of the hardware: bytes, scancodes and six-bit command values (spec/00_scope.md R7, spec/30_encoding.md). -/

namespace Sys2Proof

/-- One byte: an event byte, a command byte, a counter. Every quantity of the hardware is unsigned and at most this wide (R7, R166). -/
abbrev Byte := BitVec 8

/-- A 7-bit key identifier, row, bank and column (R60). -/
abbrev Scancode := BitVec 7

/-- The `value` field of a command byte, its bits 5 down to 0 (R62). -/
abbrev Value := BitVec 6

end Sys2Proof
end

