-- ==== Sys2Proof/Syntax.lean ====
section
/-! DEFINITION. The commands: one constructor per row of spec/opcode_table.json. -/

namespace Sys2Proof

/-- One host command byte (R62, R64), one constructor per row of the opcode table.
The operand `v` is the whole 6-bit `value` field of the byte, as the table's rows name it;
`Instr.wf` says which values a row has. -/
inductive Instr where
  /-- `0x00` RED_LED_OFF (R142). -/
  | redLedOff
  /-- `0x01` RED_LED_ON (R143). -/
  | redLedOn
  /-- `0x02` GREEN_LED_OFF (R144). -/
  | greenLedOff
  /-- `0x03` GREEN_LED_ON (R145). -/
  | greenLedOn
  /-- `0x04` BLUE_LED_OFF (R146). -/
  | blueLedOff
  /-- `0x05` BLUE_LED_ON (R147). -/
  | blueLedOn
  /-- `0x06` INIT (R148). -/
  | init
  /-- `0x40 + v` SET_DELAY v (R149). -/
  | setDelay (v : Value)
  /-- `0x80 + v` SET_RATE v (R150). -/
  | setRate (v : Value)
  /-- `0xC0 + v`, the reserved type (R151). -/
  | reservedType (v : Value)
  /-- `0x07`, the table's first row of unrecognised regular opcodes (R152). -/
  | unrecognised07
  /-- `0x08 .. 0x0F`, its second row (R152). -/
  | unrecognised08 (v : Value)
  /-- `0x10 .. 0x1F`, its third row (R152). -/
  | unrecognised10 (v : Value)
  /-- `0x20 .. 0x3F`, its fourth row (R152). -/
  | unrecognised20 (v : Value)
deriving DecidableEq, Repr

end Sys2Proof
end

