-- ==== Sys2Proof/WellFormed.lean ====
section
/-! DEFINITION. Which terms of `Instr` are commands: the ranges of spec/opcode_table.json's operand fields. -/

namespace Sys2Proof

/-- The value lies in a row's range, ends included. -/
def valueIn (lo hi : Nat) (v : Value) : Bool := decide (lo ≤ v.toNat) && decide (v.toNat ≤ hi)

/-- A term is a command when its operand lies in the range its table row gives (R64):
only the three ranged rows of unrecognised regular opcodes can fail it, since every 6-bit value is an
operand of SET_DELAY, SET_RATE and the reserved type (R63, R151). -/
def Instr.wf : Instr → Bool
  | .redLedOff => true
  | .redLedOn => true
  | .greenLedOff => true
  | .greenLedOn => true
  | .blueLedOff => true
  | .blueLedOn => true
  | .init => true
  | .setDelay _ => true
  | .setRate _ => true
  | .reservedType _ => true
  | .unrecognised07 => true
  | .unrecognised08 v => valueIn 0x08 0x0F v
  | .unrecognised10 v => valueIn 0x10 0x1F v
  | .unrecognised20 v => valueIn 0x20 0x3F v

end Sys2Proof
end

