-- ==== Sys2Proof/Decode.lean ====
section
/-! DEFINITION. Decoding and encoding of command bytes (spec/30_encoding.md R62 to R66, spec/44_command_decoder.md R141). -/

namespace Sys2Proof

/-- Bits 7 and 6 of a command byte, its type (R62). -/
def commandType (b : Byte) : BitVec 2 := b.extractLsb' 6 2

/-- Bits 5 down to 0 of a command byte, its value (R62, R63). -/
def commandValue (b : Byte) : Value := b.extractLsb' 0 6

/-- A type-00 command, by its opcode number: seven are named, 7 to 63 are unrecognised (R64, R141). -/
def decodeRegular (v : Value) : Instr :=
  if v = 0 then .redLedOff
  else if v = 1 then .redLedOn
  else if v = 2 then .greenLedOff
  else if v = 3 then .greenLedOn
  else if v = 4 then .blueLedOff
  else if v = 5 then .blueLedOn
  else if v = 6 then .init
  else if v = 7 then .unrecognised07
  else if v.toNat < 0x10 then .unrecognised08 v
  else if v.toNat < 0x20 then .unrecognised10 v
  else .unrecognised20 v

/-- The command a received byte is. Total over the 256 byte values, and it keeps no state between bytes (R65, R66, R141). -/
def decodeByte (b : Byte) : Instr :=
  if commandType b = 0b00 then decodeRegular (commandValue b)
  else if commandType b = 0b01 then .setDelay (commandValue b)
  else if commandType b = 0b10 then .setRate (commandValue b)
  else .reservedType (commandValue b)

/-- Why a list of bytes is no command. -/
inductive DecodeError where
  /-- There is no byte: every command is exactly one (R62). No byte is rejected, since every byte is a command (R65). -/
  | noByte
deriving DecidableEq, Repr

/-- Read one command off a list of bytes, and give back the bytes after it (R66). -/
def decode : List Byte → Except DecodeError (Instr × List Byte)
  | [] => .error .noByte
  | b :: rest => .ok (decodeByte b, rest)

/-- The byte of a regular command, type 00 (R62). -/
def regularByte (v : Value) : Byte := 0b00#2 ++ v

/-- The byte of a well-formed command, from the table of R64. -/
def encodeByte : Instr → Byte
  | .redLedOff => regularByte 0
  | .redLedOn => regularByte 1
  | .greenLedOff => regularByte 2
  | .greenLedOn => regularByte 3
  | .blueLedOff => regularByte 4
  | .blueLedOn => regularByte 5
  | .init => regularByte 6
  | .setDelay v => 0b01#2 ++ v
  | .setRate v => 0b10#2 ++ v
  | .reservedType v => 0b11#2 ++ v
  | .unrecognised07 => regularByte 7
  | .unrecognised08 v => regularByte v
  | .unrecognised10 v => regularByte v
  | .unrecognised20 v => regularByte v

/-- The words of a well-formed command: one byte (R66). -/
def encode (i : Instr) : List Byte := [encodeByte i]

/-- The bytes of a table word: its lowest `nbits` bits, the bits above them 0, up to the longest command, which is one byte. -/
def tableWordByte (nbits w : Nat) : Byte := BitVec.ofNat 8 (w % 2 ^ nbits)

/-- The command the decoder reads from a word numbered as spec/opcode_table.json numbers it. -/
def decodeTableWord (nbits w : Nat) : Option Instr :=
  match decode [tableWordByte nbits w] with
  | .ok (i, _) => some i
  | .error _ => none

end Sys2Proof
end

