-- ==== Sys2Proof/Config.lean ====
section
/-! DEFINITION. What is fixed for a device (spec/00_scope.md R6), what the environment supplies (spec/10_state.md R27), and the free values the spec leaves open. -/

namespace Sys2Proof

namespace Config

/-- Slots of the key-state bitmap and of the steady-counter bank, one per 7-bit scancode (R6). -/
abbrev N_SLOTS : Nat := 128

/-- Slots of the event-queue ring, 16 in the reference variant (R6, D3; log 5). -/
abbrev QUEUE_CAP : Nat := 16

/-- Members of VALID, the scancodes the matrix has (R44). -/
abbrev VALID_COUNT : Nat := 82

/-- Row number of the meta cluster (R6, R68). -/
def META_ROW : BitVec 3 := 5

/-- Loop ticks in one unit of a SET_DELAY or SET_RATE value, the spec's "x 4" (R6, R63; kept as a named constant by U10). -/
def TICKS_PER_UNIT : Byte := 4

/-- Typematic delay after reset and after INIT, in loop ticks: 63 x 4 (R6). -/
def DEFAULT_DELAY_TICKS : Byte := 252

/-- Typematic repeat period after reset and after INIT, in loop ticks: 25 x 4 (R6). -/
def DEFAULT_RATE_TICKS : Byte := 100

/-- The two parameters to which the spec gives no value (R6, D1, D2).
`steadyThresh` is `STEADY_THRESH`, any integer from 0 to 254 (R85; log 3).
`capsIndex` says which member of VALID, counted from 0 in ascending order, is the caps-lock scancode `CAPS_SC` (log 4):
whatever its value, `CAPS_SC` is a member of VALID. -/
structure Params where
  steadyThresh : Fin 255
  capsIndex : Fin VALID_COUNT
deriving DecidableEq, Repr, Inhabited

end Config

/-- What the environment can make happen next, the input events of the boundary (R27, R160). -/
inductive Stimulus where
  /-- One scan of the matrix: bit `sc` of `raw` is `raw_pressed[sc]`, 1 for pressed (R80, R161). -/
  | scanTick (raw : BitVec 128)
  /-- One iteration of the consumer loop: `rx` is the byte the receiver delivers in it, if any (R140, R162). -/
  | loopTick (rx : Option Byte)
  /-- The start-up initialisation (R200, D17). -/
  | reset
deriving DecidableEq, Repr, Inhabited

namespace Config

/-- FREE VALUE: the parameters of the device this machine is. Nothing constrains them beyond their ranges (D1, D2; log 3, log 4). -/
opaque device : Params

/-- FREE VALUE: what the environment supplies, stimulus by stimulus, once nothing placed in the state says otherwise.
The environment chooses the order of the steps and their inputs (R160; log 1). -/
opaque environment : Nat → Stimulus

/-- FREE VALUE: what a slot of `q_mem` holds that no push has written since a reset, by the number of resets taken and the slot.
The spec gives no value and says that any value may stand there (R14, R29, U6; log 7). -/
opaque unwrittenSlot : Nat → Nat → Byte

end Config

end Sys2Proof
end

