-- ==== Sys2Proof/Machine/State.lean ====
section
/-! DEFINITION. The state of the CORE (spec/10_state.md R10 to R22), its reset values (R29), and why a step can stop. -/

namespace Sys2Proof.Machine

/-- The ring storage `q_mem` as (slot, byte) cells (R14, R40).
A slot that no cell lists has not been written since the last reset and holds an unspecified byte (R29, U6; log 7).
Canonical form, `Memory.wf`: slots strictly rising, each below `QUEUE_CAP`. -/
abbrev Memory := List Host.Cell

/-- The cells' slots rise strictly from above `low`, and each is a slot of the ring. -/
def Memory.risingFrom (low : Nat) : Memory → Bool
  | [] => true
  | c :: rest => decide (low ≤ c.1) && decide (c.1 < Config.QUEUE_CAP) && Memory.risingFrom (c.1 + 1) rest

/-- The canonical form of the ring storage: every slot is listed at most once, in ascending order, and exists (R40).
An unlisted slot reads as no value, so no cell can repeat what an unlisted slot reads as. -/
def Memory.wf (m : Memory) : Bool := Memory.risingFrom 0 m

/-- A position in the ring: the value of one of the two cursors, always in `0 .. QUEUE_CAP-1` (R15, R16, R100; log 6). -/
abbrev Cursor := Fin Config.QUEUE_CAP

/-- The machine: the fourteen elements of R10, the transmit stream of the boundary (R27), and three fields of the model's own. -/
structure State where
  /-- `key_state`: the candidate direction of each scancode, true = candidate-down (R11). -/
  keyState : Vector Bool Config.N_SLOTS
  /-- `steady`: scans the candidate has been seen in, 0 = idle (R12). -/
  steady : Vector Byte Config.N_SLOTS
  /-- `q_mem`: the ring storage (R14). -/
  qMem : Memory
  /-- `q_wr`: the slot the next push writes (R15). -/
  qWr : Cursor
  /-- `q_rd`: the slot the next pop reads (R16). -/
  qRd : Cursor
  /-- `delay_ticks`: loop ticks from a forward to its first repeat (R17). -/
  delayTicks : Byte
  /-- `rate_ticks`: loop ticks from one repeat to the next (R18). -/
  rateTicks : Byte
  /-- `countdown`: loop ticks until the next repeat, 0 = idle (R19). -/
  countdown : Byte
  /-- `last_byte`: the event byte a repeat sends (R20). -/
  lastByte : Byte
  /-- `caps_state`: the logical state of caps-lock, true = on (R21). -/
  capsState : Bool
  /-- `led_red`: the red indicator's level (R22). -/
  ledRed : Bool
  /-- `led_green`: the green indicator's level (R22). -/
  ledGreen : Bool
  /-- `led_blue`: the blue indicator's level (R22). -/
  ledBlue : Bool
  /-- `led_caps`: the caps-lock indicator's level (R22). -/
  ledCaps : Bool
  /-- `tx`: the bytes handed to the transmitter, oldest first (R27, R164; log 8). -/
  tx : List Byte
  /-- The model's own: what the environment has already committed to, next first (R160; log 1). -/
  pending : List Stimulus
  /-- The model's own: how many stimuli have been drawn from `Config.environment` (log 1). -/
  envIndex : Nat
  /-- The model's own: how many resets have been taken, the index of the free content of `q_mem` (log 7). -/
  epoch : Nat
deriving DecidableEq, Repr

/-- A fault stops the machine. This hardware has none: it raises no exception and every step is total (R167, R175; log 21).
No constructor, so nobody raises one; safe, since a claim that no fault occurs holds of the hardware by R167. -/
inductive Fault where
deriving DecidableEq, Repr

/-- Why a command has no meaning in the model. -/
inductive Refusal where
  /-- Raised by an arm of `exec` whose command has no meaning yet. Safe: a run stops where the hardware goes on.
  No arm raises it in this model. -/
  | notModelled (mnemonic : String)
deriving DecidableEq, Repr

/-- The machine right after reset (R29, R200): both banks clear, both cursors 0, `q_mem` unspecified (nothing listed),
the default typematic configuration, an idle engine, caps-lock off and all indicators off.
Nothing has been transmitted, and nothing is placed in front of the environment's own choices (log 1, log 8, log 14). -/
def State.reset : State where
  keyState := Vector.replicate Config.N_SLOTS false
  steady := Vector.replicate Config.N_SLOTS 0
  qMem := []
  qWr := 0
  qRd := 0
  delayTicks := Config.DEFAULT_DELAY_TICKS
  rateTicks := Config.DEFAULT_RATE_TICKS
  countdown := 0
  lastByte := 0
  capsState := false
  ledRed := false
  ledGreen := false
  ledBlue := false
  ledCaps := false
  tx := []
  pending := []
  envIndex := 0
  epoch := 0

end Sys2Proof.Machine
end

