-- ==== Sys2Proof/Machine/Operands.lean ====
section
/-! DEFINITION. The fields of scancodes, event bytes and command operands (spec/30_encoding.md R60, R61, R63), and the set VALID (spec/20_memory.md R44). -/

namespace Sys2Proof.Machine

/-- Bits 6 to 4 of a scancode (R60). -/
def scRow (sc : Scancode) : BitVec 3 := sc.extractLsb' 4 3

/-- Bit 3 of a scancode (R60). -/
def scBank (sc : Scancode) : Bool := sc.getLsbD 3

/-- Bits 2 to 0 of a scancode (R60). -/
def scCol (sc : Scancode) : BitVec 3 := sc.extractLsb' 0 3

/-- Whether the matrix has this scancode (R44): the regular rows, 0 to 4, have eight columns in bank 0 and seven in bank 1,
the meta row, 5, has the seven columns of bank 0 alone. -/
def isValid (sc : Scancode) : Bool :=
  (decide (scRow sc < Config.META_ROW) && (!scBank sc || decide (scCol sc ≤ 6)))
    || (scRow sc == Config.META_ROW && !scBank sc && decide (scCol sc ≤ 6))

/-- VALID in ascending order, the scan order (R44, R81). -/
def validScancodes : List Scancode :=
  ((List.range Config.N_SLOTS).map (BitVec.ofNat 7)).filter isValid

/-- The caps-lock scancode of a device, `CAPS_SC` (R6, D2; log 4). -/
def capsSc (P : Config.Params) : Scancode := validScancodes.getD P.capsIndex.val 0

/-- The event byte `{D, sc}`: direction in bit 7, 0 down and 1 up, above the scancode (R61). -/
def eventByte (up : Bool) (sc : Scancode) : Byte := BitVec.ofBool up ++ sc

/-- `ev[6:0]`, the scancode of an event byte (R61). -/
def evScancode (ev : Byte) : Scancode := ev.extractLsb' 0 7

/-- `ev[7]`, set for an up event (R61, R68). -/
def evIsUp (ev : Byte) : Bool := ev.getLsbD 7

/-- The quantity a SET_DELAY or SET_RATE writes: `zext_8(value) x 4`, which always fits (R63). -/
def scaledTicks (v : Value) : Byte := v.setWidth 8 * Config.TICKS_PER_UNIT

end Sys2Proof.Machine
end

