-- ==== Sys2Proof/Machine/Ops.lean ====
section
/-! DEFINITION. The named operations over the storages and registers: every read and write of the state goes through these.
The hardware takes no exception (spec/60_exceptions.md R175), so no operation takes or returns from one;
the one operation that replaces the state as a whole is reset (R200). -/

namespace Sys2Proof.Machine

/-- The byte a slot of the ring storage holds, or none if nothing has written it since the last reset (R14). -/
def Memory.lookup (a : Nat) : Memory → Option Byte
  | [] => none
  | c :: rest => if c.1 = a then some c.2 else Memory.lookup a rest

/-- Write one byte of the ring storage, keeping the canonical form. -/
def Memory.write (a : Nat) (b : Byte) : Memory → Memory
  | [] => [(a, b)]
  | c :: rest =>
    if a < c.1 then (a, b) :: c :: rest
    else if a = c.1 then (a, b) :: rest
    else c :: Memory.write a b rest

/-- `MemRead(a, 1)`: one slot of the ring (R8). A slot that nothing has written since the last reset holds any value:
a free byte, the same at every read until a reset (R14, U6; log 7). -/
def State.ringRead (s : State) (a : Cursor) : Byte :=
  match Memory.lookup a.val s.qMem with
  | some b => b
  | none => Config.unwrittenSlot s.epoch a.val

/-- `MemWrite(a, 1, b)`: one slot of the ring (R8). -/
def State.ringWrite (s : State) (a : Cursor) (b : Byte) : State :=
  { s with qMem := Memory.write a.val b s.qMem }

/-- `(c + 1) mod QUEUE_CAP` (R101, R103). -/
def advance (c : Cursor) : Cursor := Fin.ofNat Config.QUEUE_CAP (c.val + 1)

/-- `key_state[sc]` (R11). -/
def State.keyAt (s : State) (sc : Scancode) : Bool := s.keyState[sc.toNat]'sc.isLt

/-- `steady[sc]` (R12). -/
def State.steadyAt (s : State) (sc : Scancode) : Byte := s.steady[sc.toNat]'sc.isLt

/-- `key_state[sc] <- b` (R11). -/
def State.setKey (s : State) (sc : Scancode) (b : Bool) : State :=
  { s with keyState := s.keyState.set sc.toNat b sc.isLt }

/-- `steady[sc] <- n` (R12). -/
def State.setSteady (s : State) (sc : Scancode) (n : Byte) : State :=
  { s with steady := s.steady.set sc.toNat n sc.isLt }

/-- Both banks cleared, all 128 slots (R148). -/
def State.clearBanks (s : State) : State :=
  { s with
    keyState := Vector.replicate Config.N_SLOTS false
    steady := Vector.replicate Config.N_SLOTS 0 }

/-- `q_wr <- c` (R15). -/
def State.setQWr (s : State) (c : Cursor) : State := { s with qWr := c }

/-- `q_rd <- c` (R16). -/
def State.setQRd (s : State) (c : Cursor) : State := { s with qRd := c }

/-- `delay_ticks <- n` (R17). -/
def State.setDelayTicks (s : State) (n : Byte) : State := { s with delayTicks := n }

/-- `rate_ticks <- n` (R18). -/
def State.setRateTicks (s : State) (n : Byte) : State := { s with rateTicks := n }

/-- `countdown <- n` (R19). -/
def State.setCountdown (s : State) (n : Byte) : State := { s with countdown := n }

/-- `last_byte <- b` (R20). -/
def State.setLastByte (s : State) (b : Byte) : State := { s with lastByte := b }

/-- `caps_state <- b` (R21). -/
def State.setCapsState (s : State) (b : Bool) : State := { s with capsState := b }

/-- `setIndicator(red, on)` (R22, R27). -/
def State.setLedRed (s : State) (on : Bool) : State := { s with ledRed := on }

/-- `setIndicator(green, on)` (R22, R27). -/
def State.setLedGreen (s : State) (on : Bool) : State := { s with ledGreen := on }

/-- `setIndicator(blue, on)` (R22, R27). -/
def State.setLedBlue (s : State) (on : Bool) : State := { s with ledBlue := on }

/-- `setIndicator(capslock, on)` (R22, R27). -/
def State.setLedCaps (s : State) (on : Bool) : State := { s with ledCaps := on }

/-- `tx(b)`: one byte handed to the transmitter, after the earlier ones (R8, R164; log 8). -/
def State.send (s : State) (b : Byte) : State := { s with tx := s.tx ++ [b] }

/-- The next stimulus, and the state without it: the first one placed, else the environment's free choice (R160; log 1). -/
def State.takeStimulus (s : State) : Stimulus × State :=
  match s.pending with
  | ev :: rest => (ev, { s with pending := rest })
  | [] => (Config.environment s.envIndex, { s with envIndex := s.envIndex + 1 })

/-- The `reset` input: the start-up initialisation (R200, D17). Nothing is transmitted, what was sent stays sent,
what the environment has committed to stays committed, and the content of `q_mem` is unspecified anew (log 7, log 14). -/
def State.takeReset (s : State) : State :=
  { State.reset with
    tx := s.tx
    pending := s.pending
    envIndex := s.envIndex
    epoch := s.epoch + 1 }

end Sys2Proof.Machine
end

