-- ==== Sys2Proof/Machine/Flags.lean ====
section
/-! DEFINITION. The hardware has no status flags (spec/10_state.md R25); these are the tests its rules make, which read the state elements directly. -/

namespace Sys2Proof.Machine

/-- `q_wr - q_rd` in 8-bit unsigned arithmetic, in which a smaller `q_wr` wraps around (R102). -/
def State.cursorDifference (s : State) : Byte := BitVec.ofNat 8 s.qWr.val - BitVec.ofNat 8 s.qRd.val

/-- `occupancy`: the unread entries the cursors show (R102). -/
def State.occupancy (s : State) : Nat := s.cursorDifference.toNat % Config.QUEUE_CAP

/-- The queue is empty: its occupancy is 0, which is when the cursors are equal (R102). -/
def State.queueEmpty (s : State) : Bool := decide (s.occupancy = 0)

/-- `steady[sc] > STEADY_THRESH`, strict and unsigned (R83). -/
def State.pastThreshold (P : Config.Params) (s : State) (sc : Scancode) : Bool :=
  decide (P.steadyThresh.val < (s.steadyAt sc).toNat)

/-- `countdown > 0` (R117). -/
def State.counting (s : State) : Bool := s.countdown != 0

/-- The scancode lies in the meta row (R68). -/
def isMeta (sc : Scancode) : Bool := scRow sc == Config.META_ROW

/-- The event is of the caps-lock scancode (R130). -/
def isCaps (P : Config.Params) (ev : Byte) : Bool := evScancode ev == capsSc P

/-- The event is repeat-eligible: a down event, not of the meta row, not of the caps-lock scancode (R115). -/
def repeatEligible (P : Config.Params) (ev : Byte) : Bool :=
  !evIsUp ev && !isMeta (evScancode ev) && !isCaps P ev

end Sys2Proof.Machine
end

