-- ==== Sys2Proof/Machine/Typematic.lean ====
section
/-! DEFINITION. typematic_engine (spec/42_typematic_engine.md) and the two commands that configure it (spec/44_command_decoder.md R149, R150). -/

namespace Sys2Proof.Machine

/-- `typematic_on_event(ev)` (R116): a repeat-eligible event arms the engine, any other stops it. -/
def typematicOnEvent (P : Config.Params) (ev : Byte) (s : State) : State :=
  if repeatEligible P ev then (s.setCountdown s.delayTicks).setLastByte ev else s.setCountdown 0

/-- The reload of a countdown that has just reached 0: send the latched byte, start the repeat period (R117). -/
def typematicFire (s : State) : State := (s.send s.lastByte).setCountdown s.rateTicks

/-- `typematic_tick()` (R117): count down an armed engine, and fire it when it reaches 0. -/
def typematicTick (s : State) : State :=
  if s.counting then
    if (s.setCountdown (s.countdown - 1)).counting then s.setCountdown (s.countdown - 1)
    else typematicFire (s.setCountdown (s.countdown - 1))
  else s

/-- SET_DELAY v (R149): `delay_ticks <- 4v`; a running countdown is not touched (R120). -/
def execSetDelay (v : Value) (s : State) : Host.Outcome State Fault Refusal :=
  .next (s.setDelayTicks (scaledTicks v))

/-- SET_RATE v (R150): `rate_ticks <- 4v`; a running countdown is not touched (R120). -/
def execSetRate (v : Value) (s : State) : Host.Outcome State Fault Refusal :=
  .next (s.setRateTicks (scaledTicks v))

end Sys2Proof.Machine
end

