-- ==== Sys2Proof/Machine/CapsLock.lean ====
section
/-! DEFINITION. The caps-lock latch (spec/43_caps_lock_latch.md) and the processing of a popped event (spec/45_core_step.md R163). -/

namespace Sys2Proof.Machine

/-- The latch: what, if anything, is sent for a popped event (R131 to R134). -/
def capsLatch (P : Config.Params) (ev : Byte) (s : State) : State :=
  if isCaps P ev then
    if evIsUp ev then s
    else if s.capsState then ((s.send (eventByte true (capsSc P))).setLedCaps false).setCapsState false
    else ((s.send (eventByte false (capsSc P))).setLedCaps true).setCapsState true
  else s.send ev

/-- `process_event(ev)` (R163): the latch decides what is sent, then the typematic engine is told of the event. -/
def processEvent (P : Config.Params) (ev : Byte) (s : State) : State :=
  typematicOnEvent P ev (capsLatch P ev s)

end Sys2Proof.Machine
end

