-- ==== Sys2Proof/Machine/Queue.lean ====
section
/-! DEFINITION. event_queue_fifo: push and pop (spec/41_event_queue_fifo.md). -/

namespace Sys2Proof.Machine

/-- `push(e)` (R101): write the event at `q_wr`, advance `q_wr` modulo the capacity. No full test, no look at `q_rd` (R104). -/
def push (e : Byte) (s : State) : State := (s.ringWrite s.qWr e).setQWr (advance s.qWr)

/-- `pop()` (R103): nothing from an empty queue, else the byte at `q_rd`, and `q_rd` advances. -/
def pop (s : State) : Option Byte × State :=
  if s.queueEmpty then (none, s) else (some (s.ringRead s.qRd), s.setQRd (advance s.qRd))

/-- Both cursors to 0: the queue is empty, and `q_mem` is left alone (R108). -/
def State.clearQueue (s : State) : State := (s.setQWr 0).setQRd 0

end Sys2Proof.Machine
end

