-- ==== Sys2Proof/Machine/Debounce.lean ====
section
/-! DEFINITION. debounce_filter_bank: the scan tick (spec/40_debounce_filter_bank.md, spec/45_core_step.md R161). -/

namespace Sys2Proof.Machine

/-- `update(sc, p)` (R82): a raw edge flips the candidate and arms the counter at 1; a level that matches the candidate
counts an armed counter on. -/
def update (sc : Scancode) (p : Bool) (s : State) : State :=
  if p = true ∧ s.keyAt sc = false then (s.setKey sc true).setSteady sc 1
  else if p = false ∧ s.keyAt sc = true then (s.setKey sc false).setSteady sc 1
  else if s.steadyAt sc ≠ 0 then s.setSteady sc (s.steadyAt sc + 1)
  else s

/-- `confirm(sc)` (R83): past the threshold, push the event of the candidate direction and idle the counter. -/
def confirm (P : Config.Params) (sc : Scancode) (s : State) : State :=
  if s.pastThreshold P sc then (push (eventByte (!s.keyAt sc) sc) s).setSteady sc 0 else s

/-- One visit of a scancode: its update, then its check (R81). -/
def visit (P : Config.Params) (raw : BitVec 128) (s : State) (sc : Scancode) : State :=
  confirm P sc (update sc (raw.getLsbD sc.toNat) s)

/-- `ScanTick(raw_pressed)`: every scancode of VALID visited in ascending order (R81, R161). -/
def scanTick (P : Config.Params) (raw : BitVec 128) (s : State) : State :=
  validScancodes.foldl (visit P raw) s

end Sys2Proof.Machine
end

