-- ==== Sys2Proof/Machine/Ignored.lean ====
section
/-! DEFINITION. The command bytes without effect (spec/44_command_decoder.md R151, R152): consumed, and nothing changes (R65). -/

namespace Sys2Proof.Machine

/-- A byte that is consumed with no state change and nothing sent (R65, R177). -/
def ignoreByte (s : State) : Host.Outcome State Fault Refusal := .next s

/-- The reserved type, `0xC0 .. 0xFF` (R151). -/
def execReservedType (_v : Value) (s : State) : Host.Outcome State Fault Refusal := ignoreByte s

/-- Unrecognised regular opcode 7 (R152). -/
def execUnrecognised07 (s : State) : Host.Outcome State Fault Refusal := ignoreByte s

/-- Unrecognised regular opcodes 8 to 15 (R152). -/
def execUnrecognised08 (_v : Value) (s : State) : Host.Outcome State Fault Refusal := ignoreByte s

/-- Unrecognised regular opcodes 16 to 31 (R152). -/
def execUnrecognised10 (_v : Value) (s : State) : Host.Outcome State Fault Refusal := ignoreByte s

/-- Unrecognised regular opcodes 32 to 63 (R152). -/
def execUnrecognised20 (_v : Value) (s : State) : Host.Outcome State Fault Refusal := ignoreByte s

end Sys2Proof.Machine
end

