-- ==== Sys2Proof/Machine/Init.lean ====
section
/-! DEFINITION. The INIT command (spec/44_command_decoder.md R148). -/

namespace Sys2Proof.Machine

/-- The four indicators off (R148). -/
def State.ledsOff (s : State) : State :=
  (((s.setLedRed false).setLedGreen false).setLedBlue false).setLedCaps false

/-- The default typematic configuration (R148). -/
def State.restoreDefaults (s : State) : State :=
  (s.setDelayTicks Config.DEFAULT_DELAY_TICKS).setRateTicks Config.DEFAULT_RATE_TICKS

/-- The typematic engine idle and its latch clear: the spec's decision D10, not the source's list (R148; log 13). -/
def State.idleTypematic (s : State) : State := (s.setCountdown 0).setLastByte 0

/-- INIT: every element but `q_mem` to its start-up value, in one instant, with nothing transmitted (R148, R207). -/
def execInit (s : State) : Host.Outcome State Fault Refusal :=
  .next ((((s.clearBanks.clearQueue).setCapsState false).restoreDefaults.ledsOff).idleTypematic)

end Sys2Proof.Machine
end

