-- ==== Sys2Proof/Machine/Leds.lean ====
section
/-! DEFINITION. The six indicator commands (spec/44_command_decoder.md R142 to R147). -/

namespace Sys2Proof.Machine

/-- RED_LED_OFF: `setIndicator(red, false)` (R142). -/
def execRedLedOff (s : State) : Host.Outcome State Fault Refusal := .next (s.setLedRed false)

/-- RED_LED_ON: `setIndicator(red, true)` (R143). -/
def execRedLedOn (s : State) : Host.Outcome State Fault Refusal := .next (s.setLedRed true)

/-- GREEN_LED_OFF: `setIndicator(green, false)` (R144). -/
def execGreenLedOff (s : State) : Host.Outcome State Fault Refusal := .next (s.setLedGreen false)

/-- GREEN_LED_ON: `setIndicator(green, true)` (R145). -/
def execGreenLedOn (s : State) : Host.Outcome State Fault Refusal := .next (s.setLedGreen true)

/-- BLUE_LED_OFF: `setIndicator(blue, false)` (R146). -/
def execBlueLedOff (s : State) : Host.Outcome State Fault Refusal := .next (s.setLedBlue false)

/-- BLUE_LED_ON: `setIndicator(blue, true)` (R147). -/
def execBlueLedOn (s : State) : Host.Outcome State Fault Refusal := .next (s.setLedBlue true)

end Sys2Proof.Machine
end

