-- ==== Sys2Proof/Machine/Dispatch.lean ====
section
/-! DEFINITION. Executing one command byte: one arm per command (spec/44_command_decoder.md R141). -/

namespace Sys2Proof.Machine

def exec (i : Instr) (s : State) : Host.Outcome State Fault Refusal :=
  match i with
  | .redLedOff => Sys2Proof.Machine.execRedLedOff s
  | .redLedOn => Sys2Proof.Machine.execRedLedOn s
  | .greenLedOff => Sys2Proof.Machine.execGreenLedOff s
  | .greenLedOn => Sys2Proof.Machine.execGreenLedOn s
  | .blueLedOff => Sys2Proof.Machine.execBlueLedOff s
  | .blueLedOn => Sys2Proof.Machine.execBlueLedOn s
  | .init => Sys2Proof.Machine.execInit s
  | .setDelay v => Sys2Proof.Machine.execSetDelay v s
  | .setRate v => Sys2Proof.Machine.execSetRate v s
  | .reservedType v => Sys2Proof.Machine.execReservedType v s
  | .unrecognised07 => Sys2Proof.Machine.execUnrecognised07 s
  | .unrecognised08 v => Sys2Proof.Machine.execUnrecognised08 v s
  | .unrecognised10 v => Sys2Proof.Machine.execUnrecognised10 v s
  | .unrecognised20 v => Sys2Proof.Machine.execUnrecognised20 v s

end Sys2Proof.Machine
end

