-- ==== Sys2Proof/Machine/Loop.lean ====
section
/-! DEFINITION. The loop tick: countdown, one pop, one command (spec/45_core_step.md R162). -/

namespace Sys2Proof.Machine

/-- Sub-step 2 of a loop tick: at most one event is popped, and processed (R162, D8; log 11). -/
def popAndProcess (P : Config.Params) (s : State) : State :=
  match pop s with
  | (none, t) => t
  | (some ev, t) => processEvent P ev t

/-- Sub-steps 1 and 2 of a loop tick: the countdown, then the pop (R162, D7; log 10). -/
def loopFront (P : Config.Params) (s : State) : State := popAndProcess P (typematicTick s)

/-- Sub-step 3 of a loop tick: the received byte, if there is one, is decoded and executed (R140, R141). -/
def commandStep (rx : Option Byte) (s : State) : Host.Outcome State Fault Refusal :=
  match rx with
  | none => .next s
  | some b => exec (decodeByte b) s

/-- `LoopTick(rx)` (R162). -/
def loopTick (P : Config.Params) (rx : Option Byte) (s : State) : Host.Outcome State Fault Refusal :=
  commandStep rx (loopFront P s)

/-- One stimulus of the environment, acted on (R160). -/
def respond (P : Config.Params) (ev : Stimulus) (s : State) : Host.Outcome State Fault Refusal :=
  match ev with
  | .scanTick raw => .next (scanTick P raw s)
  | .loopTick rx => loopTick P rx s
  | .reset => .next s.takeReset

/-- One step of a device with the parameters `P`: the next stimulus is taken and acted on (R160). -/
def stepWith (P : Config.Params) (s : State) : Host.Outcome State Fault Refusal :=
  respond P s.takeStimulus.1 s.takeStimulus.2

end Sys2Proof.Machine
end

