-- ==== Sys2Proof/Machine/Step.lean ====
section
/-! DEFINITION. One step of the machine, and where its next command byte comes from. -/

namespace Sys2Proof.Machine

/-- One step of this device: one scan tick, one loop tick or one reset, as the environment supplies it (R160). -/
def step (s : State) : Host.Outcome State Fault Refusal := stepWith Config.device s

/-- The state in which the next step is a loop tick that receives the given command byte (R140; log 1). -/
def State.withFetchWord (s : State) (nbits w : Nat) : State :=
  { s with pending := .loopTick (some (tableWordByte nbits w)) :: s.pending }

end Sys2Proof.Machine
end

