-- ==== Sys2Proof/Safety.lean ====
section
/-! DEFINITION. What counts as a safe state (spec/10_state.md R30), and the terms in which claims speak of queues, scans, commands and the wire. -/

namespace Sys2Proof.Machine

/-! ## The queue as a list -/

/-- The slot `k` places after `q_rd` (R104). -/
def State.slotAfter (s : State) (k : Nat) : Cursor := Fin.ofNat Config.QUEUE_CAP (s.qRd.val + k)

/-- The unread entries, oldest first: the slots from `q_rd` up to but not including `q_wr` (R100, R102). -/
def State.unread (s : State) : List Byte := (List.range s.occupancy).map (fun k => s.ringRead (s.slotAfter k))

/-- The events pushed one after the other, with no pop in between (R104). -/
def pushAll (es : List Byte) (s : State) : State := es.foldl (fun t e => push e t) s

/-- The last `m` members of a list. -/
def lastOf (m : Nat) (es : List Byte) : List Byte := es.drop (es.length - m)

/-- One use of the queue: the producer's push or the consumer's pop. -/
inductive QueueOp where
  | push (e : Byte)
  | pop
deriving DecidableEq, Repr

/-- The bytes a sequence of uses pushes, in order. -/
def pushedBy : List QueueOp → List Byte
  | [] => []
  | .push e :: rest => e :: pushedBy rest
  | .pop :: rest => pushedBy rest

/-- The state after a sequence of uses. -/
def afterOps : List QueueOp → State → State
  | [], s => s
  | .push e :: rest, s => afterOps rest (push e s)
  | .pop :: rest, s => afterOps rest (pop s).2

/-- The bytes a sequence of uses pops, in order; a pop of an empty queue gives none. -/
def poppedBy : List QueueOp → State → List Byte
  | [], _ => []
  | .push e :: rest, s => poppedBy rest (push e s)
  | .pop :: rest, s => (pop s).1.toList ++ poppedBy rest (pop s).2

/-- No push of the sequence is made while 15 entries are unread, the premise of the FIFO law (R105, U1). -/
def neverOverflows : List QueueOp → State → Prop
  | [], _ => True
  | .push e :: rest, s => s.occupancy < Config.QUEUE_CAP - 1 ∧ neverOverflows rest (push e s)
  | .pop :: rest, s => neverOverflows rest (pop s).2

/-! ## Scans, seen slot by slot -/

/-- What the update of R82 makes of a counter: 1 at a raw edge, else one more if it was armed. -/
def countedTo (pressed candidate : Bool) (n : Byte) : Byte :=
  if pressed ≠ candidate then 1 else if n = 0 then 0 else n + 1

/-- The counter of a scancode as this scan's update leaves it, before the check (R82). -/
def State.scanCount (s : State) (raw : BitVec 128) (sc : Scancode) : Byte :=
  countedTo (raw.getLsbD sc.toNat) (s.keyAt sc) (s.steadyAt sc)

/-- Whether a scan confirms this scancode (R83). -/
def confirms (P : Config.Params) (raw : BitVec 128) (s : State) (sc : Scancode) : Bool :=
  decide (P.steadyThresh.val < (s.scanCount raw sc).toNat)

/-- The event of a scancode that now reads `pressed`: down if pressed, up if not (R83, R84). -/
def levelEvent (pressed : Bool) (sc : Scancode) : Byte := eventByte (!pressed) sc

/-- The events one scan confirms, in scan order (R81, R89). -/
def scanEvents (P : Config.Params) (raw : BitVec 128) (s : State) : List Byte :=
  (validScancodes.filter (confirms P raw s)).map (fun sc => levelEvent (raw.getLsbD sc.toNat) sc)

/-- Several scans, one after the other. -/
def scans (P : Config.Params) (raws : List (BitVec 128)) (s : State) : State :=
  raws.foldl (fun t raw => scanTick P raw t) s

/-- Scan by scan, the events of one scancode that a sequence of scans confirms. -/
def keyEvents (P : Config.Params) (sc : Scancode) : List (BitVec 128) → State → List (List Byte)
  | [], _ => []
  | raw :: rest, s =>
    (scanEvents P raw s).filter (fun ev => evScancode ev == sc) :: keyEvents P sc rest (scanTick P raw s)

/-- Every scan of the sequence reads the scancode at this level. -/
def readsAs (sc : Scancode) (pressed : Bool) (raws : List (BitVec 128)) : Prop :=
  ∀ raw ∈ raws, raw.getLsbD sc.toNat = pressed

/-- No level of the scancode lasts more than `n` consecutive scans of the sequence (R88). -/
def noLevelLasts (sc : Scancode) (n : Nat) (raws : List (BitVec 128)) : Prop :=
  ∀ before held after, raws = before ++ held ++ after → ∀ pressed, readsAs sc pressed held → held.length ≤ n

/-! ## Several steps -/

/-- `k` steps of the machine, one after the other, stopping where one does not answer a next state. -/
def stepTimes : Nat → State → Host.Outcome State Fault Refusal
  | 0, s => .next s
  | k + 1, s =>
    match step s with
    | .next t => stepTimes k t
    | .fault r => .fault r
    | .refused r => .refused r

/-! ## Commands by what they write -/

/-- What a command writes (R155). -/
inductive Writes where
  | red
  | green
  | blue
  | delay
  | rate
  | everything
  | nothing
deriving DecidableEq, Repr

/-- The element each command writes (R142 to R152). -/
def Writes.of : Instr → Writes
  | .redLedOff => .red
  | .redLedOn => .red
  | .greenLedOff => .green
  | .greenLedOn => .green
  | .blueLedOff => .blue
  | .blueLedOn => .blue
  | .init => .everything
  | .setDelay _ => .delay
  | .setRate _ => .rate
  | .reservedType _ => .nothing
  | .unrecognised07 => .nothing
  | .unrecognised08 _ => .nothing
  | .unrecognised10 _ => .nothing
  | .unrecognised20 _ => .nothing

/-- Two commands write no element in common (R155). -/
def Writes.disjoint (a b : Writes) : Bool :=
  a == .nothing || b == .nothing || (a != b && a != .everything && b != .everything)

/-! ## Events on the wire -/

/-- Popped events processed one after the other. -/
def processAll (P : Config.Params) (evs : List Byte) (s : State) : State :=
  evs.foldl (fun t ev => processEvent P ev t) s

/-- What goes onto the wire for a popped event: nothing for a caps-lock up event, the synthetic byte for a caps-lock down event,
an up byte if the logical state is on, and any other event as it is (R131 to R134, R136). -/
def wireBytes (P : Config.Params) (capsOn : Bool) (ev : Byte) : List Byte :=
  if evScancode ev = capsSc P then (if evIsUp ev then [] else [eventByte capsOn (capsSc P)]) else [ev]

/-- `n` bytes of the caps-lock scancode, alternately up and down, the first an up byte if `up` is set (R135). -/
def alternating (P : Config.Params) : Bool → Nat → List Byte
  | _, 0 => []
  | up, n + 1 => eventByte up (capsSc P) :: alternating P (!up) n

/-- How many caps-lock down events a list holds. -/
def capsPresses (P : Config.Params) (evs : List Byte) : Nat :=
  (evs.filter (fun ev => isCaps P ev && !evIsUp ev)).length

/-! ## The invariant -/

/-- The invariant of R30, for a device with the parameters `P`; (a), that both cursors lie below `QUEUE_CAP`, holds by their type. -/
structure Inv (P : Config.Params) (s : State) : Prop where
  /-- The ring storage is in canonical form. -/
  ringForm : s.qMem.wf = true
  /-- (b) No counter is above the threshold. -/
  steadyBound : ∀ sc, (s.steadyAt sc).toNat ≤ P.steadyThresh.val
  /-- (b) The slots outside VALID hold 0. -/
  unscanned : ∀ sc, isValid sc = false → s.steadyAt sc = 0 ∧ s.keyAt sc = false
  /-- (c) The delay is a multiple of 4, at most 252. -/
  delayScaled : s.delayTicks.toNat % 4 = 0 ∧ s.delayTicks.toNat ≤ 252
  /-- (c) The rate is a multiple of 4, at most 252. -/
  rateScaled : s.rateTicks.toNat % 4 = 0 ∧ s.rateTicks.toNat ≤ 252
  /-- (d) -/
  countdownBound : s.countdown.toNat ≤ 252
  /-- (e) While the engine counts, its latch holds a repeat-eligible down event, of a scancode that exists. -/
  latchEligible : s.countdown ≠ 0 → repeatEligible P s.lastByte = true ∧ isValid (evScancode s.lastByte) = true
  /-- (f) -/
  capsShown : s.ledCaps = s.capsState
  /-- (g) Every unread slot has been written and holds an event of a scancode that exists. -/
  unreadWritten : ∀ k < s.occupancy,
    ∃ b, Memory.lookup (s.slotAfter k).val s.qMem = some b ∧ isValid (evScancode b) = true

end Sys2Proof.Machine
end

