-- ==== Sys2Proof/Certificates/Slice0/Obligations.lean ====
section
/-! DEFINITION. The statements for the provers. Each is about the machine for every state, operand and parameter; none is about a program. -/

open Sys2Proof Sys2Proof.Machine

/-! ### Encoding -/

/-- Reading a command off a list of bytes and writing its byte are inverse, for every command with every operand (R62, R64, R66).
So every byte is exactly one command and no bit of it is dropped. -/
def Obligations.DecodeAndEncodeAgree : Prop :=
  ∀ (i : Instr) (bytes rest : List Byte),
    decode bytes = .ok (i, rest) ↔ i.wf = true ∧ bytes = encode i ++ rest

/-- A few command bytes, written out as spec/30_encoding.md §3 and §6 write them, decode to the commands they stand for. -/
def Obligations.CommandWordsDecode : Prop :=
  decodeByte 0b00000000 = .redLedOff ∧ decodeByte 0b00000011 = .greenLedOn ∧ decodeByte 0b00000101 = .blueLedOn
    ∧ decodeByte 0b00000110 = .init ∧ decodeByte 0b00000111 = .unrecognised07
    ∧ decodeByte 0b00001000 = .unrecognised08 8 ∧ decodeByte 0b00011111 = .unrecognised10 31
    ∧ decodeByte 0b00111111 = .unrecognised20 63
    ∧ decodeByte 0b01000101 = .setDelay 5 ∧ decodeByte 0b10000011 = .setRate 3 ∧ decodeByte 0b11111111 = .reservedType 63

/-- The event byte of a scancode and its fields (R61): a down event is the scancode, an up event is 0x80 more,
and direction and scancode read back. -/
def Obligations.EventByteFieldsReadBack : Prop :=
  ∀ (up : Bool) (sc : Scancode),
    (eventByte up sc).toNat = (if up then 0x80 else 0) + sc.toNat ∧ evIsUp (eventByte up sc) = up
      ∧ evScancode (eventByte up sc) = sc

/-- VALID (R44): membership by row, bank and column, 82 members, listed in ascending order.
That exactly VALID is the set a scan tick visits, as the name says, is the spec's own decision D14 (log 16). -/
def Obligations.ValidIsTheScannedSet : Prop :=
  (∀ sc : Scancode, sc ∈ validScancodes ↔
    (sc.toNat / 16 ≤ 4 ∧ (sc.toNat / 8 % 2 = 0 ∨ sc.toNat % 8 ≤ 6))
      ∨ (sc.toNat / 16 = 5 ∧ sc.toNat / 8 % 2 = 0 ∧ sc.toNat % 8 ≤ 6))
    ∧ validScancodes.length = 82 ∧ validScancodes.Pairwise (· < ·)

/-! ### Commands -/

/-- The whole command map (R64, R141), byte by byte: the effect of each of the 256 bytes, with nothing else changed.
That INIT also idles the typematic engine and clears its latch is the spec's own decision D10 (log 13). -/
def Obligations.EveryCommandByteHasItsTableEffect : Prop :=
  ∀ (b : Byte) (s : State),
    exec (decodeByte b) s = .next (
      if b.toNat = 0 then { s with ledRed := false }
      else if b.toNat = 1 then { s with ledRed := true }
      else if b.toNat = 2 then { s with ledGreen := false }
      else if b.toNat = 3 then { s with ledGreen := true }
      else if b.toNat = 4 then { s with ledBlue := false }
      else if b.toNat = 5 then { s with ledBlue := true }
      else if b.toNat = 6 then
        { State.reset with
          qMem := s.qMem, tx := s.tx, pending := s.pending, envIndex := s.envIndex, epoch := s.epoch }
      else if b.toNat < 0x40 then s
      else if b.toNat < 0x80 then { s with delayTicks := BitVec.ofNat 8 (4 * (b.toNat - 0x40)) }
      else if b.toNat < 0xC0 then { s with rateTicks := BitVec.ofNat 8 (4 * (b.toNat - 0x80)) }
      else s)

/-- The six indicator commands (R142 to R147): the byte of each, the one indicator it writes and the level it writes.
Every other element of the state is as before, and executing the command again changes nothing more. -/
def Obligations.IndicatorCommandsWriteOneIndicator : Prop :=
  ∀ s : State,
    (decodeByte 0x00 = .redLedOff ∧ exec .redLedOff s = .next { s with ledRed := false }
        ∧ (s.ledRed = false → exec .redLedOff s = .next s))
      ∧ (decodeByte 0x01 = .redLedOn ∧ exec .redLedOn s = .next { s with ledRed := true }
        ∧ (s.ledRed = true → exec .redLedOn s = .next s))
      ∧ (decodeByte 0x02 = .greenLedOff ∧ exec .greenLedOff s = .next { s with ledGreen := false }
        ∧ (s.ledGreen = false → exec .greenLedOff s = .next s))
      ∧ (decodeByte 0x03 = .greenLedOn ∧ exec .greenLedOn s = .next { s with ledGreen := true }
        ∧ (s.ledGreen = true → exec .greenLedOn s = .next s))
      ∧ (decodeByte 0x04 = .blueLedOff ∧ exec .blueLedOff s = .next { s with ledBlue := false }
        ∧ (s.ledBlue = false → exec .blueLedOff s = .next s))
      ∧ (decodeByte 0x05 = .blueLedOn ∧ exec .blueLedOn s = .next { s with ledBlue := true }
        ∧ (s.ledBlue = true → exec .blueLedOn s = .next s))

/-- INIT (R148) clears both banks and both cursors, puts caps-lock and all four indicators off and restores the default configuration;
it leaves every slot of `q_mem`, what was transmitted and what the environment has committed to alone.
Its clearing of `countdown` and `last_byte` is the spec's own decision D10 (log 13). -/
def Obligations.InitClearsAllButTheRing : Prop :=
  ∀ s : State, ∃ t, exec .init s = .next t
    ∧ (∀ sc, t.keyAt sc = false ∧ t.steadyAt sc = 0) ∧ t.qWr = 0 ∧ t.qRd = 0
    ∧ t.capsState = false ∧ t.delayTicks = 252 ∧ t.rateTicks = 100
    ∧ t.ledRed = false ∧ t.ledGreen = false ∧ t.ledBlue = false ∧ t.ledCaps = false
    ∧ t.countdown = 0 ∧ t.lastByte = 0
    ∧ (∀ a, t.ringRead a = s.ringRead a) ∧ t.qMem = s.qMem ∧ t.epoch = s.epoch
    ∧ t.tx = s.tx ∧ t.pending = s.pending ∧ t.envIndex = s.envIndex

/-- SET_DELAY v (R149): its byte, the delay of 4v ticks it writes and nothing else, the default at v = 63,
and with v = 0 no event arms the engine any more. -/
def Obligations.SetDelayWritesFourTimesItsValue : Prop :=
  ∀ (v : Value) (s : State),
    decodeByte (BitVec.ofNat 8 (0x40 + v.toNat)) = .setDelay v
      ∧ exec (.setDelay v) s = .next { s with delayTicks := BitVec.ofNat 8 (4 * v.toNat) } ∧ 4 * v.toNat ≤ 252
      ∧ (v = 63 → exec (.setDelay v) s = .next { s with delayTicks := 252 })
      ∧ (v = 0 → ∀ t, exec (.setDelay v) s = .next t → ∀ P ev, (typematicOnEvent P ev t).countdown = 0)

/-- SET_RATE v (R150): its byte, the period of 4v ticks it writes and nothing else, the default at v = 25;
the new period is first used at the next reload, so with v = 0 the engine is idle once it has fired. -/
def Obligations.SetRateWritesFourTimesItsValue : Prop :=
  ∀ (v : Value) (s : State),
    decodeByte (BitVec.ofNat 8 (0x80 + v.toNat)) = .setRate v
      ∧ exec (.setRate v) s = .next { s with rateTicks := BitVec.ofNat 8 (4 * v.toNat) } ∧ 4 * v.toNat ≤ 252
      ∧ (v = 25 → exec (.setRate v) s = .next { s with rateTicks := 100 })
      ∧ (∀ t, exec (.setRate v) s = .next t → t.countdown = s.countdown
        ∧ (t.countdown = 1 → (typematicTick t).countdown.toNat = 4 * v.toNat))

/-- Bytes of the reserved type and unrecognised regular opcodes (R151, R152): no state changes and nothing is sent,
for every one of the 64 and of the 57 bytes, and for every command they decode to. -/
def Obligations.IgnoredBytesChangeNothing : Prop :=
  (∀ (b : Byte) (s : State), commandType b = 0b11 ∨ (commandType b = 0b00 ∧ 7 ≤ (commandValue b).toNat) →
      exec (decodeByte b) s = .next s)
    ∧ (∀ (v : Value) (s : State), exec (.reservedType v) s = .next s ∧ exec .unrecognised07 s = .next s
      ∧ exec (.unrecognised08 v) s = .next s ∧ exec (.unrecognised10 v) s = .next s ∧ exec (.unrecognised20 v) s = .next s)

/-- The frame of every command but INIT (R154): no slot of the banks or of the ring, no cursor, not the countdown, the latch,
the caps-lock state or its indicator, and nothing sent. -/
def Obligations.CommandsButInitKeepKeysQueueAndRepeat : Prop :=
  ∀ (i : Instr) (s t : State), i ≠ .init → exec i s = .next t →
    (∀ sc, t.keyAt sc = s.keyAt sc ∧ t.steadyAt sc = s.steadyAt sc)
      ∧ (∀ a, t.ringRead a = s.ringRead a) ∧ t.qMem = s.qMem ∧ t.qWr = s.qWr ∧ t.qRd = s.qRd
      ∧ t.countdown = s.countdown ∧ t.lastByte = s.lastByte ∧ t.capsState = s.capsState ∧ t.ledCaps = s.ledCaps
      ∧ t.tx = s.tx ∧ t.pending = s.pending ∧ t.envIndex = s.envIndex ∧ t.epoch = s.epoch

/-- Every command is idempotent (R155). -/
def Obligations.CommandsAreIdempotent : Prop :=
  ∀ (i : Instr) (s : State), ∃ t, exec i s = .next t ∧ exec i t = .next t

/-- Commands that write no element in common commute (R155). -/
def Obligations.CommandsThatWriteApartCommute : Prop :=
  ∀ (i j : Instr) (s : State), Writes.disjoint (Writes.of i) (Writes.of j) = true →
    ∃ t u r, exec i s = .next t ∧ exec j s = .next u ∧ exec j t = .next r ∧ exec i u = .next r

/-! ### The event queue -/

/-- `push` (R101): the event goes to the slot of `q_wr`, `q_wr` advances modulo 16, every other slot and element is as before,
and the read cursor is not looked at. -/
def Obligations.PushStoresAtTheWriteCursor : Prop :=
  ∀ (e : Byte) (s : State),
    (push e s).qWr.val = (s.qWr.val + 1) % 16
      ∧ (∀ a, (push e s).ringRead a = if a = s.qWr then e else s.ringRead a)
      ∧ { push e s with qMem := s.qMem, qWr := s.qWr } = s
      ∧ (∀ c, push e (s.setQRd c) = (push e s).setQRd c)

/-- `pop` (R103): an empty queue gives nothing and changes nothing; any other gives the byte of the slot of `q_rd`,
advances `q_rd` modulo 16 and changes nothing else. -/
def Obligations.PopTakesTheReadSlot : Prop :=
  ∀ s : State,
    (s.qWr = s.qRd → pop s = (none, s))
      ∧ (s.qWr ≠ s.qRd → (pop s).1 = some (s.ringRead s.qRd) ∧ (pop s).2.qRd.val = (s.qRd.val + 1) % 16
        ∧ { (pop s).2 with qRd := s.qRd } = s)

/-- The occupancy (R102): the 8-bit difference of the cursors wraps when `q_wr` is the smaller, and its low four bits are the
occupancy either way, which is below 16 and 0 exactly when the cursors are equal.
That both cursors stay below 16 is the spec's own decision D4 (log 6). -/
def Obligations.OccupancyIsTheWrappedDifference : Prop :=
  ∀ s : State,
    (s.qRd ≤ s.qWr → s.cursorDifference.toNat = s.qWr.val - s.qRd.val ∧ s.occupancy = s.qWr.val - s.qRd.val)
      ∧ (s.qWr < s.qRd → s.cursorDifference.toNat = 256 - (s.qRd.val - s.qWr.val)
        ∧ s.occupancy = 16 - (s.qRd.val - s.qWr.val))
      ∧ s.occupancy < 16 ∧ (s.occupancy = 0 ↔ s.qWr = s.qRd) ∧ s.unread.length = s.occupancy

/-- What overflow leaves (R104, C4, D4; log 6): after n pushes from occupancy k the queue shows the last (k + n) mod 16 entries
of its old backlog followed by the pushes, in order; so nothing is lost up to 15 and the sixteenth unread entry loses all. -/
def Obligations.PushesLeaveTheLastEntriesModuloCapacity : Prop :=
  ∀ (es : List Byte) (s : State),
    (pushAll es s).occupancy = (s.occupancy + es.length) % 16
      ∧ (pushAll es s).unread = lastOf ((s.occupancy + es.length) % 16) (s.unread ++ es)

/-- The FIFO law (R105): over any sequence of pushes and pops in which no push is made while 15 entries are unread,
what is popped, followed by what stays unread, is what was unread followed by what was pushed. -/
def Obligations.QueueIsFifoUntilItOverflows : Prop :=
  ∀ (ops : List QueueOp) (s : State), neverOverflows ops s →
    poppedBy ops s ++ (afterOps ops s).unread = s.unread ++ pushedBy ops

/-- From an empty queue, as reset and INIT leave it, every byte that is ever popped was pushed since, overflow or not (R110). -/
def Obligations.PopsGiveOnlyPushedBytes : Prop :=
  ∀ (ops : List QueueOp) (s : State), s.qWr = s.qRd → ∀ b ∈ poppedBy ops s, b ∈ pushedBy ops

/-- INIT and reset empty the queue, and INIT leaves every slot of the ring alone (R108). -/
def Obligations.InitAndResetEmptyTheQueue : Prop :=
  ∀ s : State,
    (∃ t, exec .init s = .next t ∧ t.qWr = 0 ∧ t.qRd = 0 ∧ pop t = (none, t) ∧ t.unread = []
        ∧ ∀ a, t.ringRead a = s.ringRead a)
      ∧ s.takeReset.qWr = 0 ∧ s.takeReset.qRd = 0 ∧ pop s.takeReset = (none, s.takeReset) ∧ s.takeReset.unread = []

/-! ### The debounce filter bank -/

/-- `update` (R82): a level that differs from the candidate replaces it and arms the counter at 1, whatever it held;
a level that matches counts an armed counter on and leaves an idle one idle; no other slot and no other element changes. -/
def Obligations.UpdateFollowsTheSampledLevel : Prop :=
  ∀ (sc : Scancode) (p : Bool) (s : State),
    (s.keyAt sc ≠ p → (update sc p s).keyAt sc = p ∧ (update sc p s).steadyAt sc = 1)
      ∧ (s.keyAt sc = p → (update sc p s).keyAt sc = p
        ∧ (update sc p s).steadyAt sc = if s.steadyAt sc = 0 then 0 else s.steadyAt sc + 1)
      ∧ (∀ k, k ≠ sc → (update sc p s).keyAt k = s.keyAt k ∧ (update sc p s).steadyAt k = s.steadyAt k)
      ∧ { update sc p s with keyState := s.keyState, steady := s.steady } = s

/-- `confirm` (R83's pseudocode): past the threshold the event of the candidate is pushed and the counter idles, and at or below
it nothing changes; the candidate, the other slots and everything but the queue are as before. -/
def Obligations.ConfirmPushesTheCandidate : Prop :=
  ∀ (P : Config.Params) (sc : Scancode) (s : State),
    ((s.steadyAt sc).toNat ≤ P.steadyThresh.val → confirm P sc s = s)
      ∧ (P.steadyThresh.val < (s.steadyAt sc).toNat →
        (∀ k, (confirm P sc s).keyAt k = s.keyAt k)
          ∧ (∀ k, (confirm P sc s).steadyAt k = if k = sc then 0 else s.steadyAt k)
          ∧ { confirm P sc s with steady := s.steady }
            = push (BitVec.ofNat 8 ((if s.keyAt sc then 0 else 0x80) + sc.toNat)) s)

/-- The scan tick as a whole (R81, R89, R161): every slot of VALID is updated from its own level, candidate and counter alone,
the confirmed events are pushed in ascending scancode order, and slots outside VALID (the spec's decision D14; log 16) and all other elements are as before. -/
def Obligations.ScanTickVisitsSlotsIndependently : Prop :=
  ∀ (P : Config.Params) (raw : BitVec 128) (s : State),
    (∀ sc, isValid sc = true →
      (scanTick P raw s).keyAt sc = raw.getLsbD sc.toNat
        ∧ (scanTick P raw s).steadyAt sc = if confirms P raw s sc then 0 else s.scanCount raw sc)
      ∧ (∀ sc, isValid sc = false →
        (scanTick P raw s).keyAt sc = s.keyAt sc ∧ (scanTick P raw s).steadyAt sc = s.steadyAt sc)
      ∧ { scanTick P raw s with keyState := s.keyState, steady := s.steady } = pushAll (scanEvents P raw s) s

/-- The scan tick depends on the banks, the ring and the write cursor alone, of the raw levels only on those of VALID,
and writes nothing else (R92, R161; D14, log 16). -/
def Obligations.ScanTickReadsOnlyTheProducersState : Prop :=
  ∀ (P : Config.Params) (raw raw' : BitVec 128) (s t : State),
    s.keyState = t.keyState → s.steady = t.steady → s.qMem = t.qMem → s.qWr = t.qWr →
    (∀ sc, isValid sc = true → raw.getLsbD sc.toNat = raw'.getLsbD sc.toNat) →
    scanTick P raw s = { s with
      keyState := (scanTick P raw' t).keyState, steady := (scanTick P raw' t).steady,
      qMem := (scanTick P raw' t).qMem, qWr := (scanTick P raw' t).qWr }

/-- The two filter properties (R91). (a) A transition held for at most `STEADY_THRESH` scans, then reverted, gives no event of its
own direction. (b) One held for `STEADY_THRESH + 1` scans gives exactly one event, of its direction, in the last of them,
and no second one follows while the level stays. -/
def Obligations.StableTransitionGivesExactlyOneEvent : Prop :=
  ∀ (P : Config.Params) (sc : Scancode) (p : Bool) (s : State) (raws : List (BitVec 128)),
    isValid sc = true → s.keyAt sc ≠ p → readsAs sc p raws →
    (raws.length ≤ P.steadyThresh.val → ∀ after, readsAs sc (!p) after →
        keyEvents P sc raws s = List.replicate raws.length []
          ∧ ∀ evs ∈ keyEvents P sc (raws ++ after) s, levelEvent p sc ∉ evs)
      ∧ (∀ m, raws.length = P.steadyThresh.val + 1 + m →
        keyEvents P sc raws s
          = List.replicate P.steadyThresh.val [] ++ [[eventByte (!p) sc]] ++ List.replicate m [])

/-- A pulse of 1 to `STEADY_THRESH` scans on a key at rest gives no event, and its reversion, held for `STEADY_THRESH + 1` scans,
gives one event of the resting direction (R87, C2). -/
def Obligations.ShortPulseRepeatsTheRestingEvent : Prop :=
  ∀ (P : Config.Params) (sc : Scancode) (rest : Bool) (s : State) (pulse back : List (BitVec 128)),
    isValid sc = true → s.keyAt sc = rest → s.steadyAt sc = 0 →
    readsAs sc (!rest) pulse → 1 ≤ pulse.length → pulse.length ≤ P.steadyThresh.val →
    readsAs sc rest back → back.length = P.steadyThresh.val + 1 →
    keyEvents P sc (pulse ++ back) s
      = List.replicate (pulse.length + P.steadyThresh.val) [] ++ [[eventByte (!rest) sc]]

/-- Contact bounce on a real transition gives exactly one event (R88): a key at rest reads any mixture of levels none of which lasts
more than `STEADY_THRESH` scans, ends it on the resting level, and then reads the new level. -/
def Obligations.BounceThenSettleGivesOneEvent : Prop :=
  ∀ (P : Config.Params) (sc : Scancode) (p : Bool) (s : State) (bounce settled : List (BitVec 128)),
    isValid sc = true → s.keyAt sc ≠ p → s.steadyAt sc = 0 →
    noLevelLasts sc P.steadyThresh.val bounce → (∀ raw ∈ bounce.getLast?, raw.getLsbD sc.toNat ≠ p) →
    readsAs sc p settled → settled.length = P.steadyThresh.val + 1 →
    keyEvents P sc (bounce ++ settled) s
      = List.replicate (bounce.length + P.steadyThresh.val) [] ++ [[eventByte (!p) sc]]

/-- After INIT, whatever the state before it, a key that is held gives a down event in scan `STEADY_THRESH + 1`, and one that stays
released gives none (R90). -/
def Obligations.HeldKeyIsReportedAfreshAfterInit : Prop :=
  ∀ (P : Config.Params) (sc : Scancode) (s t : State) (raws : List (BitVec 128)),
    isValid sc = true → exec .init s = .next t →
    (readsAs sc true raws → raws.length = P.steadyThresh.val + 1 →
        keyEvents P sc raws t = List.replicate P.steadyThresh.val [] ++ [[eventByte false sc]])
      ∧ (readsAs sc false raws → keyEvents P sc raws t = List.replicate raws.length [])

/-- From cleared banks, as reset and INIT leave them, no event is pushed before scan `STEADY_THRESH + 1`, whatever the levels (R203). -/
def Obligations.NoEventBeforeTheThresholdScan : Prop :=
  ∀ (P : Config.Params) (raws : List (BitVec 128)) (s : State),
    (∀ sc, s.keyAt sc = false ∧ s.steadyAt sc = 0) → raws.length ≤ P.steadyThresh.val →
    (scans P raws s).qWr = s.qWr ∧ (scans P raws s).qMem = s.qMem

/-! ### The typematic engine and the caps-lock latch -/

/-- Which events arm the engine (R115), and what an event does to it: a down event, outside the meta row, of another scancode than
caps-lock, loads the delay and the latch; any other idles the countdown and keeps the latch; nothing else changes.
That a caps-lock up event idles it too is the spec's own decision D9 (log 12). -/
def Obligations.EligibleEventsArmAndOthersStop : Prop :=
  ∀ (P : Config.Params) (ev : Byte) (s : State),
    (repeatEligible P ev = true ↔
        ev.getLsbD 7 = false ∧ ev.extractLsb' 4 3 ≠ 5 ∧ ev.extractLsb' 0 7 ≠ capsSc P)
      ∧ (repeatEligible P ev = true → typematicOnEvent P ev s = { s with countdown := s.delayTicks, lastByte := ev })
      ∧ (repeatEligible P ev = false → typematicOnEvent P ev s = { s with countdown := 0 })

/-- The cadence of auto-repeat (R117 to R119, R124), over k loop ticks with an empty queue and no command received, from any
countdown n and any rate r: nothing before tick n; from tick n on the latched byte at n, n + r, n + 2r, ...; a single repeat when
r is 0; nothing from an idle engine. That the countdown is stepped before the pop is the spec's own decision D7 (log 10). -/
def Obligations.RepeatsFollowTheConfiguredCadence : Prop :=
  ∀ (k : Nat) (s : State) (rest : List Stimulus),
    s.qWr = s.qRd → s.pending = List.replicate k (.loopTick none) ++ rest →
    (s.countdown = 0 → stepTimes k s = .next { s with pending := rest })
      ∧ (k < s.countdown.toNat →
        stepTimes k s
          = .next { s with pending := rest, countdown := BitVec.ofNat 8 (s.countdown.toNat - k) })
      ∧ (s.countdown ≠ 0 → s.countdown.toNat ≤ k → s.rateTicks ≠ 0 →
        stepTimes k s
          = .next { s with
            pending := rest
            tx := s.tx ++ List.replicate (1 + (k - s.countdown.toNat) / s.rateTicks.toNat) s.lastByte
            countdown := BitVec.ofNat 8 (s.rateTicks.toNat - (k - s.countdown.toNat) % s.rateTicks.toNat) })
      ∧ (s.countdown ≠ 0 → s.countdown.toNat ≤ k → s.rateTicks = 0 →
        stepTimes k s = .next { s with pending := rest, tx := s.tx ++ [s.lastByte], countdown := 0 })

/-- One tick of the engine (R117's pseudocode): an idle engine changes nothing, a countdown above 1 is decremented, and a countdown
of 1 sends the latched byte and reloads from the rate. -/
def Obligations.TypematicTickCountsOrFires : Prop :=
  ∀ s : State,
    (s.countdown = 0 → typematicTick s = s)
      ∧ (s.countdown = 1 → typematicTick s = { s with tx := s.tx ++ [s.lastByte], countdown := s.rateTicks })
      ∧ (2 ≤ s.countdown.toNat → typematicTick s = { s with countdown := BitVec.ofNat 8 (s.countdown.toNat - 1) })

/-- The latch (R131, R132, R134): a caps-lock down event sends the scancode and switches on, or sends 0x80 more and switches off;
an event of any other scancode is sent exactly as popped; a caps-lock up event sends and changes nothing. -/
def Obligations.CapsLatchTogglesOnDownEvents : Prop :=
  ∀ (P : Config.Params) (ev : Byte) (s : State),
    (ev.toNat = (capsSc P).toNat → s.capsState = false →
        capsLatch P ev s
          = { s with tx := s.tx ++ [BitVec.ofNat 8 (capsSc P).toNat], ledCaps := true, capsState := true })
      ∧ (ev.toNat = (capsSc P).toNat → s.capsState = true →
        capsLatch P ev s
          = { s with tx := s.tx ++ [BitVec.ofNat 8 (0x80 + (capsSc P).toNat)], ledCaps := false, capsState := false })
      ∧ (ev.toNat = 0x80 + (capsSc P).toNat → capsLatch P ev s = s)
      ∧ (ev.toNat % 0x80 ≠ (capsSc P).toNat → capsLatch P ev s = { s with tx := s.tx ++ [ev] })

/-- On the wire the caps-lock scancode alternates, one byte per caps-lock down event and none per up event, whatever other events are
processed in between (R135); the latch and its indicator end as the number of presses says. -/
def Obligations.CapsPressesAlternateOnTheWire : Prop :=
  ∀ (P : Config.Params) (evs : List Byte) (s : State),
    (processAll P evs s).tx.filter (isCaps P)
        = s.tx.filter (isCaps P) ++ alternating P s.capsState (capsPresses P evs)
      ∧ ((processAll P evs s).capsState = xor s.capsState (decide (capsPresses P evs % 2 = 1)))
      ∧ (s.ledCaps = s.capsState → (processAll P evs s).ledCaps = (processAll P evs s).capsState)

/-! ### Steps -/

/-- A loop tick sends the repeat byte if one falls due, then what the latch makes of the popped event if there is one, and nothing for
the command (R136, R153, R162, R164). The order is the spec's own decision D7 (log 10), the single pop its decision D8 (log 11). -/
def Obligations.LoopTickSendsRepeatThenEvent : Prop :=
  ∀ (P : Config.Params) (rx : Option Byte) (s : State), ∃ t, loopTick P rx s = .next t
    ∧ t.tx = s.tx ++ (if s.countdown = 1 then [s.lastByte] else [])
      ++ (if s.qWr = s.qRd then [] else wireBytes P s.capsState (s.ringRead s.qRd))

/-- A command acts after the event of its loop tick (R162 (b), (c)): a SET_DELAY received with an eligible event leaves that event
armed with the old delay, and an INIT received with an event of another key than caps-lock lets it be sent and then clears the rest.
The order is the spec's own decision D7 (log 10); that INIT idles the engine is its decision D10 (log 13). -/
def Obligations.CommandActsAfterTheEventOfItsTick : Prop :=
  ∀ (P : Config.Params) (s : State), s.qWr ≠ s.qRd →
    (repeatEligible P (s.ringRead s.qRd) = true → ∀ v : Value, ∃ t,
        loopTick P (some (0b01#2 ++ v)) s = .next t ∧ t.countdown = s.delayTicks
          ∧ t.lastByte = s.ringRead s.qRd ∧ t.delayTicks.toNat = 4 * v.toNat)
      ∧ (isCaps P (s.ringRead s.qRd) = false → ∃ t,
        loopTick P (some 0x06) s = .next t ∧ t.tx = (typematicTick s).tx ++ [s.ringRead s.qRd]
          ∧ t.countdown = 0 ∧ t.unread = [] ∧ t.delayTicks = 252)

/-- What changes nothing (R161, R162 (d)): a loop tick with an empty queue, no byte and an idle engine,
and a scan tick with every key of VALID released and its slot at rest (that the others are not read is D14, log 16). -/
def Obligations.IdleStepsChangeNothing : Prop :=
  ∀ (P : Config.Params) (s : State),
    (s.qWr = s.qRd → s.countdown = 0 → loopTick P none s = .next s)
      ∧ (∀ raw : BitVec 128, (∀ sc, isValid sc = true →
        raw.getLsbD sc.toNat = false ∧ s.keyAt sc = false ∧ s.steadyAt sc = 0) → scanTick P raw s = s)

/-- Where a scan tick falls inside a loop tick does not matter, short of overflow and INIT (R45, R46, D5; log 2): after the countdown and before
the pop it is one before the loop tick; between the pop and the processing, or between that and a command other than INIT, it is
one after it; and with entries waiting and room for its events, one before the loop tick is one after it. -/
def Obligations.ScanTickInsideALoopTickIsOneAtItsEnd : Prop :=
  ∀ (P : Config.Params) (raw : BitVec 128) (s : State),
    popAndProcess P (scanTick P raw (typematicTick s)) = loopFront P (scanTick P raw s)
      ∧ (∀ ev, processEvent P ev (scanTick P raw s) = scanTick P raw (processEvent P ev s))
      ∧ (∀ rx, rx.map decodeByte ≠ some .init → ∃ t, commandStep rx s = .next t
        ∧ commandStep rx (scanTick P raw s) = .next (scanTick P raw t))
      ∧ (s.qWr ≠ s.qRd → s.occupancy + (scanEvents P raw s).length ≤ 15 →
        ∀ rx, rx.map decodeByte ≠ some .init → ∃ t, loopTick P rx s = .next t
          ∧ loopTick P rx (scanTick P raw s) = .next (scanTick P raw t))

/-- Single-writer discipline on the consumer's side (R26, R92, R107): a loop tick that receives no INIT writes neither bank, no slot of
the ring and not the write cursor. -/
def Obligations.LoopTickButInitKeepsTheProducersState : Prop :=
  ∀ (P : Config.Params) (rx : Option Byte) (s t : State),
    rx ≠ some 0x06 → loopTick P rx s = .next t →
    t.keyState = s.keyState ∧ t.steady = s.steady ∧ t.qMem = s.qMem ∧ t.qWr = s.qWr ∧ t.epoch = s.epoch
      ∧ (∀ a, t.ringRead a = s.ringRead a)

/-- The machine is never stuck (R167): every step from every state answers a next state. -/
def Obligations.EveryStepAnswersANextState : Prop :=
  ∀ s : State, ∃ t, step s = .next t

/-- A step runs the decoded command (R140, R162): when the receiver's byte is next and decodes to i, the step is the countdown and the
pop of the loop tick, and then exec of i. -/
def Obligations.StepRunsTheDecodedCommand : Prop :=
  ∀ (s : State) (b : Byte) (i : Instr) (rest : List Stimulus),
    s.pending = .loopTick (some b) :: rest → decode [b] = .ok (i, []) →
    step s = exec i (popAndProcess Config.device (typematicTick { s with pending := rest }))

/-- A step takes the next stimulus placed, and the environment's free choice when none is (R160; the placing is the model's, log 1),
and acts on it: a scan tick is the scan of its levels (R161), a loop tick the loop tick of its byte (R162), and a reset leaves
the start-up state (R200; the spec's own decision D17, log 14), keeping what was sent and what is placed (log 24)
and with nothing listed in `q_mem` (log 7). -/
def Obligations.StepActsOnTheNextStimulus : Prop :=
  (∀ (s : State) (ev : Stimulus) (rest : List Stimulus),
    (s.pending = ev :: rest → step s = respond Config.device ev { s with pending := rest })
      ∧ (s.pending = [] →
        step s = respond Config.device (Config.environment s.envIndex) { s with envIndex := s.envIndex + 1 }))
    ∧ (∀ (P : Config.Params) (raw : BitVec 128) (rx : Option Byte) (s : State),
      respond P (.scanTick raw) s = .next (scanTick P raw s)
        ∧ respond P (.loopTick rx) s = loopTick P rx s
        ∧ respond P .reset s = .next s.takeReset)
    ∧ (∀ (s : State) (raw : BitVec 128) (rest : List Stimulus),
      (s.pending = .scanTick raw :: rest → step s = .next (scanTick Config.device raw { s with pending := rest }))
        ∧ (s.pending = .reset :: rest →
          step s = .next { s with pending := rest }.takeReset
            ∧ step s = .next { State.reset with
              tx := s.tx, pending := rest, envIndex := s.envIndex, epoch := s.epoch + 1 }))

/-- The invariant of R30 at reset, for every device. The reset values it rests on are the spec's decisions D10 and D11 for the
countdown, the latch and the indicators (log 13, log 14). -/
def Obligations.ResetMeetsTheInvariant : Prop :=
  ∀ P : Config.Params, Inv P State.reset

/-- Every step keeps the invariant of R30 (the latch clause with the scancode's existence added). That slots outside VALID stay at rest
and only scancodes of VALID are queued is the spec's own decision D14 (log 16), that the cursors stay below 16 its D4 (log 6). -/
def Obligations.EveryStepKeepsTheInvariant : Prop :=
  ∀ s t : State, Inv Config.device s → step s = .next t → Inv Config.device t

/-- The device sends nothing but events of keys that exist, and at most two bytes a step (R61, R84, R153, R164).
That only scancodes of VALID are scanned is the spec's own decision D14 (log 16); that a loop tick pops at most one event,
so that two bytes are the most, its decision D8 (log 11). -/
def Obligations.OnlyEventsOfExistingKeysAreSent : Prop :=
  ∀ s t : State, Inv Config.device s → step s = .next t →
    ∃ bs, t.tx = s.tx ++ bs ∧ bs.length ≤ 2 ∧ ∀ b ∈ bs, isValid (evScancode b) = true

/-- What reset leaves (R29, R200). The values of `countdown` and `last_byte` are the spec's decision D10 (log 13), and the indicators'
its decision D11 (log 14); that nothing is placed and nothing is sent is the model's (log 1, log 8). -/
def Obligations.ResetLeavesTheStartUpValues : Prop :=
  (∀ sc, State.reset.keyAt sc = false ∧ State.reset.steadyAt sc = 0)
    ∧ State.reset.qWr = 0 ∧ State.reset.qRd = 0 ∧ State.reset.delayTicks = 252 ∧ State.reset.rateTicks = 100
    ∧ State.reset.countdown = 0 ∧ State.reset.lastByte = 0 ∧ State.reset.capsState = false
    ∧ State.reset.ledRed = false ∧ State.reset.ledGreen = false ∧ State.reset.ledBlue = false
    ∧ State.reset.ledCaps = false ∧ State.reset.tx = [] ∧ State.reset.pending = []
    ∧ ∀ a, Memory.lookup a State.reset.qMem = none

/-- Reset and INIT reach the same state in every element but `q_mem` (R201, the spec's decisions D10 and D11; log 13, log 14). -/
def Obligations.ResetAndInitReachTheSameState : Prop :=
  ∀ s : State, exec .init s = .next { s.takeReset with qMem := s.qMem, epoch := s.epoch }

/-! ### The loop tick as a whole -/

/-- Every popped event reaches the typematic engine (R116, R121, R163; that a consumed caps-lock up event does too is the spec's
own decision D9, log 12): processing an eligible event arms the engine, and processing any other, an up event, a meta-row event
or a caps-lock event of either direction, leaves the countdown 0 and the latch as it was. So it is after a loop tick with an
event queued and no INIT received; with an empty queue the tick of the engine alone moves the countdown (D7, log 10). -/
def Obligations.EveryPoppedEventReachesTheEngine : Prop :=
  ∀ (P : Config.Params) (s : State),
    (∀ ev : Byte,
      (repeatEligible P ev = true →
          (processEvent P ev s).countdown = s.delayTicks ∧ (processEvent P ev s).lastByte = ev)
        ∧ (ev.getLsbD 7 = true ∨ ev.extractLsb' 4 3 = 5 ∨ ev.extractLsb' 0 7 = capsSc P →
          (processEvent P ev s).countdown = 0 ∧ (processEvent P ev s).lastByte = s.lastByte))
      ∧ ∀ rx : Option Byte, rx ≠ some 0x06 → ∃ t, loopTick P rx s = .next t
        ∧ (s.qWr ≠ s.qRd → repeatEligible P (s.ringRead s.qRd) = true →
          t.countdown = s.delayTicks ∧ t.lastByte = s.ringRead s.qRd)
        ∧ (s.qWr ≠ s.qRd → repeatEligible P (s.ringRead s.qRd) = false →
          t.countdown = 0 ∧ t.lastByte = s.lastByte)
        ∧ (s.qWr = s.qRd → t.countdown = (typematicTick s).countdown ∧ t.lastByte = s.lastByte)

/-- A loop tick takes the event it processes off the queue, exactly one (R103, R162; the single pop is the spec's own decision D8,
log 11), if it receives no INIT: with an empty queue `q_rd` and the caps-lock latch are as before; otherwise `q_rd` is one more
modulo 16, the unread entries are the old ones without the first, and the latch and its indicator are flipped
by a caps-lock down event (R131, R132) and by no other. -/
def Obligations.LoopTickTakesOneEventOffTheQueue : Prop :=
  ∀ (P : Config.Params) (rx : Option Byte) (s : State), rx ≠ some 0x06 → ∃ t, loopTick P rx s = .next t
    ∧ (s.qWr = s.qRd →
      t.qRd = s.qRd ∧ t.unread = [] ∧ t.capsState = s.capsState ∧ t.ledCaps = s.ledCaps)
    ∧ (s.qWr ≠ s.qRd →
      t.qRd.val = (s.qRd.val + 1) % 16 ∧ s.unread = s.ringRead s.qRd :: t.unread
        ∧ ((s.ringRead s.qRd).toNat = (capsSc P).toNat → t.capsState = !s.capsState ∧ t.ledCaps = !s.capsState)
        ∧ ((s.ringRead s.qRd).toNat ≠ (capsSc P).toNat → t.capsState = s.capsState ∧ t.ledCaps = s.ledCaps))

/-- The frame of a loop tick's first two sub-steps (R117, R103, R163): a loop tick without a byte changes `q_rd`, the output, the countdown,
the latch, the caps-lock state and its indicator at most, and one with a byte is the execution of its command after that (R162;
the order is the spec's own decision D7, log 10). -/
def Obligations.LoopTickWithoutCommandKeepsTheRest : Prop :=
  ∀ (P : Config.Params) (s : State), ∃ t, loopTick P none s = .next t
    ∧ (∀ b, loopTick P (some b) s = exec (decodeByte b) t)
    ∧ { t with
        qRd := s.qRd, tx := s.tx, countdown := s.countdown, lastByte := s.lastByte
        capsState := s.capsState, ledCaps := s.ledCaps } = s

/-- Once a loop tick has popped an event that is not repeat-eligible, the up event of the held key above all, and has emptied the queue,
no repeat follows: any number of further loop ticks without a byte change nothing (R117, R121, R124; the order of the sub-steps
is the spec's own decision D7, log 10, and that a caps-lock up event stops the repeat too its D9, log 12). -/
def Obligations.NoRepeatFollowsAStoppingEvent : Prop :=
  ∀ (k : Nat) (s : State) (rest : List Stimulus),
    s.pending = .loopTick none :: (List.replicate k (.loopTick none) ++ rest) →
    s.occupancy = 1 → repeatEligible Config.device (s.ringRead s.qRd) = false →
    ∃ t, step s = .next t ∧ t.countdown = 0 ∧ stepTimes k t = .next { t with pending := rest }
end

