-- ==== Sys2Proof/Laws/State.lean ====
section
/-! SUPPORT. One lemma per field per update of the state, so that no later proof unfolds a record update. -/

namespace Sys2Proof.Machine

variable (s : State)

/-! ### ringWrite -/

@[simp] theorem State.ringWrite_keyState (a : Cursor) (b : Byte) : (s.ringWrite a b).keyState = s.keyState := rfl
@[simp] theorem State.ringWrite_steady (a : Cursor) (b : Byte) : (s.ringWrite a b).steady = s.steady := rfl
@[simp] theorem State.ringWrite_qMem (a : Cursor) (b : Byte) : (s.ringWrite a b).qMem = Memory.write a.val b s.qMem := rfl
@[simp] theorem State.ringWrite_qWr (a : Cursor) (b : Byte) : (s.ringWrite a b).qWr = s.qWr := rfl
@[simp] theorem State.ringWrite_qRd (a : Cursor) (b : Byte) : (s.ringWrite a b).qRd = s.qRd := rfl
@[simp] theorem State.ringWrite_delayTicks (a : Cursor) (b : Byte) : (s.ringWrite a b).delayTicks = s.delayTicks := rfl
@[simp] theorem State.ringWrite_rateTicks (a : Cursor) (b : Byte) : (s.ringWrite a b).rateTicks = s.rateTicks := rfl
@[simp] theorem State.ringWrite_countdown (a : Cursor) (b : Byte) : (s.ringWrite a b).countdown = s.countdown := rfl
@[simp] theorem State.ringWrite_lastByte (a : Cursor) (b : Byte) : (s.ringWrite a b).lastByte = s.lastByte := rfl
@[simp] theorem State.ringWrite_capsState (a : Cursor) (b : Byte) : (s.ringWrite a b).capsState = s.capsState := rfl
@[simp] theorem State.ringWrite_ledRed (a : Cursor) (b : Byte) : (s.ringWrite a b).ledRed = s.ledRed := rfl
@[simp] theorem State.ringWrite_ledGreen (a : Cursor) (b : Byte) : (s.ringWrite a b).ledGreen = s.ledGreen := rfl
@[simp] theorem State.ringWrite_ledBlue (a : Cursor) (b : Byte) : (s.ringWrite a b).ledBlue = s.ledBlue := rfl
@[simp] theorem State.ringWrite_ledCaps (a : Cursor) (b : Byte) : (s.ringWrite a b).ledCaps = s.ledCaps := rfl
@[simp] theorem State.ringWrite_tx (a : Cursor) (b : Byte) : (s.ringWrite a b).tx = s.tx := rfl
@[simp] theorem State.ringWrite_pending (a : Cursor) (b : Byte) : (s.ringWrite a b).pending = s.pending := rfl
@[simp] theorem State.ringWrite_envIndex (a : Cursor) (b : Byte) : (s.ringWrite a b).envIndex = s.envIndex := rfl
@[simp] theorem State.ringWrite_epoch (a : Cursor) (b : Byte) : (s.ringWrite a b).epoch = s.epoch := rfl
@[simp] theorem State.ringWrite_keyAt (a : Cursor) (b : Byte) (k : Scancode) : (s.ringWrite a b).keyAt k = s.keyAt k := rfl
@[simp] theorem State.ringWrite_steadyAt (a : Cursor) (b : Byte) (k : Scancode) : (s.ringWrite a b).steadyAt k = s.steadyAt k := rfl
@[simp] theorem State.ringWrite_occupancy (a : Cursor) (b : Byte) : (s.ringWrite a b).occupancy = s.occupancy := rfl
@[simp] theorem State.ringWrite_counting (a : Cursor) (b : Byte) : (s.ringWrite a b).counting = s.counting := rfl

/-! ### setKey -/

@[simp] theorem State.setKey_keyState (sc : Scancode) (b : Bool) : (s.setKey sc b).keyState = s.keyState.set sc.toNat b sc.isLt := rfl
@[simp] theorem State.setKey_steady (sc : Scancode) (b : Bool) : (s.setKey sc b).steady = s.steady := rfl
@[simp] theorem State.setKey_qMem (sc : Scancode) (b : Bool) : (s.setKey sc b).qMem = s.qMem := rfl
@[simp] theorem State.setKey_qWr (sc : Scancode) (b : Bool) : (s.setKey sc b).qWr = s.qWr := rfl
@[simp] theorem State.setKey_qRd (sc : Scancode) (b : Bool) : (s.setKey sc b).qRd = s.qRd := rfl
@[simp] theorem State.setKey_delayTicks (sc : Scancode) (b : Bool) : (s.setKey sc b).delayTicks = s.delayTicks := rfl
@[simp] theorem State.setKey_rateTicks (sc : Scancode) (b : Bool) : (s.setKey sc b).rateTicks = s.rateTicks := rfl
@[simp] theorem State.setKey_countdown (sc : Scancode) (b : Bool) : (s.setKey sc b).countdown = s.countdown := rfl
@[simp] theorem State.setKey_lastByte (sc : Scancode) (b : Bool) : (s.setKey sc b).lastByte = s.lastByte := rfl
@[simp] theorem State.setKey_capsState (sc : Scancode) (b : Bool) : (s.setKey sc b).capsState = s.capsState := rfl
@[simp] theorem State.setKey_ledRed (sc : Scancode) (b : Bool) : (s.setKey sc b).ledRed = s.ledRed := rfl
@[simp] theorem State.setKey_ledGreen (sc : Scancode) (b : Bool) : (s.setKey sc b).ledGreen = s.ledGreen := rfl
@[simp] theorem State.setKey_ledBlue (sc : Scancode) (b : Bool) : (s.setKey sc b).ledBlue = s.ledBlue := rfl
@[simp] theorem State.setKey_ledCaps (sc : Scancode) (b : Bool) : (s.setKey sc b).ledCaps = s.ledCaps := rfl
@[simp] theorem State.setKey_tx (sc : Scancode) (b : Bool) : (s.setKey sc b).tx = s.tx := rfl
@[simp] theorem State.setKey_pending (sc : Scancode) (b : Bool) : (s.setKey sc b).pending = s.pending := rfl
@[simp] theorem State.setKey_envIndex (sc : Scancode) (b : Bool) : (s.setKey sc b).envIndex = s.envIndex := rfl
@[simp] theorem State.setKey_epoch (sc : Scancode) (b : Bool) : (s.setKey sc b).epoch = s.epoch := rfl
@[simp] theorem State.setKey_steadyAt (sc : Scancode) (b : Bool) (k : Scancode) : (s.setKey sc b).steadyAt k = s.steadyAt k := rfl
@[simp] theorem State.setKey_ringRead (sc : Scancode) (b : Bool) (k : Cursor) : (s.setKey sc b).ringRead k = s.ringRead k := rfl
@[simp] theorem State.setKey_occupancy (sc : Scancode) (b : Bool) : (s.setKey sc b).occupancy = s.occupancy := rfl
@[simp] theorem State.setKey_counting (sc : Scancode) (b : Bool) : (s.setKey sc b).counting = s.counting := rfl

/-! ### setSteady -/

@[simp] theorem State.setSteady_keyState (sc : Scancode) (n : Byte) : (s.setSteady sc n).keyState = s.keyState := rfl
@[simp] theorem State.setSteady_steady (sc : Scancode) (n : Byte) : (s.setSteady sc n).steady = s.steady.set sc.toNat n sc.isLt := rfl
@[simp] theorem State.setSteady_qMem (sc : Scancode) (n : Byte) : (s.setSteady sc n).qMem = s.qMem := rfl
@[simp] theorem State.setSteady_qWr (sc : Scancode) (n : Byte) : (s.setSteady sc n).qWr = s.qWr := rfl
@[simp] theorem State.setSteady_qRd (sc : Scancode) (n : Byte) : (s.setSteady sc n).qRd = s.qRd := rfl
@[simp] theorem State.setSteady_delayTicks (sc : Scancode) (n : Byte) : (s.setSteady sc n).delayTicks = s.delayTicks := rfl
@[simp] theorem State.setSteady_rateTicks (sc : Scancode) (n : Byte) : (s.setSteady sc n).rateTicks = s.rateTicks := rfl
@[simp] theorem State.setSteady_countdown (sc : Scancode) (n : Byte) : (s.setSteady sc n).countdown = s.countdown := rfl
@[simp] theorem State.setSteady_lastByte (sc : Scancode) (n : Byte) : (s.setSteady sc n).lastByte = s.lastByte := rfl
@[simp] theorem State.setSteady_capsState (sc : Scancode) (n : Byte) : (s.setSteady sc n).capsState = s.capsState := rfl
@[simp] theorem State.setSteady_ledRed (sc : Scancode) (n : Byte) : (s.setSteady sc n).ledRed = s.ledRed := rfl
@[simp] theorem State.setSteady_ledGreen (sc : Scancode) (n : Byte) : (s.setSteady sc n).ledGreen = s.ledGreen := rfl
@[simp] theorem State.setSteady_ledBlue (sc : Scancode) (n : Byte) : (s.setSteady sc n).ledBlue = s.ledBlue := rfl
@[simp] theorem State.setSteady_ledCaps (sc : Scancode) (n : Byte) : (s.setSteady sc n).ledCaps = s.ledCaps := rfl
@[simp] theorem State.setSteady_tx (sc : Scancode) (n : Byte) : (s.setSteady sc n).tx = s.tx := rfl
@[simp] theorem State.setSteady_pending (sc : Scancode) (n : Byte) : (s.setSteady sc n).pending = s.pending := rfl
@[simp] theorem State.setSteady_envIndex (sc : Scancode) (n : Byte) : (s.setSteady sc n).envIndex = s.envIndex := rfl
@[simp] theorem State.setSteady_epoch (sc : Scancode) (n : Byte) : (s.setSteady sc n).epoch = s.epoch := rfl
@[simp] theorem State.setSteady_keyAt (sc : Scancode) (n : Byte) (k : Scancode) : (s.setSteady sc n).keyAt k = s.keyAt k := rfl
@[simp] theorem State.setSteady_ringRead (sc : Scancode) (n : Byte) (k : Cursor) : (s.setSteady sc n).ringRead k = s.ringRead k := rfl
@[simp] theorem State.setSteady_occupancy (sc : Scancode) (n : Byte) : (s.setSteady sc n).occupancy = s.occupancy := rfl
@[simp] theorem State.setSteady_counting (sc : Scancode) (n : Byte) : (s.setSteady sc n).counting = s.counting := rfl

/-! ### clearBanks -/

@[simp] theorem State.clearBanks_keyState : (s.clearBanks).keyState = Vector.replicate Config.N_SLOTS false := rfl
@[simp] theorem State.clearBanks_steady : (s.clearBanks).steady = Vector.replicate Config.N_SLOTS 0 := rfl
@[simp] theorem State.clearBanks_qMem : (s.clearBanks).qMem = s.qMem := rfl
@[simp] theorem State.clearBanks_qWr : (s.clearBanks).qWr = s.qWr := rfl
@[simp] theorem State.clearBanks_qRd : (s.clearBanks).qRd = s.qRd := rfl
@[simp] theorem State.clearBanks_delayTicks : (s.clearBanks).delayTicks = s.delayTicks := rfl
@[simp] theorem State.clearBanks_rateTicks : (s.clearBanks).rateTicks = s.rateTicks := rfl
@[simp] theorem State.clearBanks_countdown : (s.clearBanks).countdown = s.countdown := rfl
@[simp] theorem State.clearBanks_lastByte : (s.clearBanks).lastByte = s.lastByte := rfl
@[simp] theorem State.clearBanks_capsState : (s.clearBanks).capsState = s.capsState := rfl
@[simp] theorem State.clearBanks_ledRed : (s.clearBanks).ledRed = s.ledRed := rfl
@[simp] theorem State.clearBanks_ledGreen : (s.clearBanks).ledGreen = s.ledGreen := rfl
@[simp] theorem State.clearBanks_ledBlue : (s.clearBanks).ledBlue = s.ledBlue := rfl
@[simp] theorem State.clearBanks_ledCaps : (s.clearBanks).ledCaps = s.ledCaps := rfl
@[simp] theorem State.clearBanks_tx : (s.clearBanks).tx = s.tx := rfl
@[simp] theorem State.clearBanks_pending : (s.clearBanks).pending = s.pending := rfl
@[simp] theorem State.clearBanks_envIndex : (s.clearBanks).envIndex = s.envIndex := rfl
@[simp] theorem State.clearBanks_epoch : (s.clearBanks).epoch = s.epoch := rfl
@[simp] theorem State.clearBanks_ringRead (k : Cursor) : (s.clearBanks).ringRead k = s.ringRead k := rfl
@[simp] theorem State.clearBanks_occupancy : (s.clearBanks).occupancy = s.occupancy := rfl
@[simp] theorem State.clearBanks_counting : (s.clearBanks).counting = s.counting := rfl

/-! ### setQWr -/

@[simp] theorem State.setQWr_keyState (c : Cursor) : (s.setQWr c).keyState = s.keyState := rfl
@[simp] theorem State.setQWr_steady (c : Cursor) : (s.setQWr c).steady = s.steady := rfl
@[simp] theorem State.setQWr_qMem (c : Cursor) : (s.setQWr c).qMem = s.qMem := rfl
@[simp] theorem State.setQWr_qWr (c : Cursor) : (s.setQWr c).qWr = c := rfl
@[simp] theorem State.setQWr_qRd (c : Cursor) : (s.setQWr c).qRd = s.qRd := rfl
@[simp] theorem State.setQWr_delayTicks (c : Cursor) : (s.setQWr c).delayTicks = s.delayTicks := rfl
@[simp] theorem State.setQWr_rateTicks (c : Cursor) : (s.setQWr c).rateTicks = s.rateTicks := rfl
@[simp] theorem State.setQWr_countdown (c : Cursor) : (s.setQWr c).countdown = s.countdown := rfl
@[simp] theorem State.setQWr_lastByte (c : Cursor) : (s.setQWr c).lastByte = s.lastByte := rfl
@[simp] theorem State.setQWr_capsState (c : Cursor) : (s.setQWr c).capsState = s.capsState := rfl
@[simp] theorem State.setQWr_ledRed (c : Cursor) : (s.setQWr c).ledRed = s.ledRed := rfl
@[simp] theorem State.setQWr_ledGreen (c : Cursor) : (s.setQWr c).ledGreen = s.ledGreen := rfl
@[simp] theorem State.setQWr_ledBlue (c : Cursor) : (s.setQWr c).ledBlue = s.ledBlue := rfl
@[simp] theorem State.setQWr_ledCaps (c : Cursor) : (s.setQWr c).ledCaps = s.ledCaps := rfl
@[simp] theorem State.setQWr_tx (c : Cursor) : (s.setQWr c).tx = s.tx := rfl
@[simp] theorem State.setQWr_pending (c : Cursor) : (s.setQWr c).pending = s.pending := rfl
@[simp] theorem State.setQWr_envIndex (c : Cursor) : (s.setQWr c).envIndex = s.envIndex := rfl
@[simp] theorem State.setQWr_epoch (c : Cursor) : (s.setQWr c).epoch = s.epoch := rfl
@[simp] theorem State.setQWr_keyAt (c : Cursor) (k : Scancode) : (s.setQWr c).keyAt k = s.keyAt k := rfl
@[simp] theorem State.setQWr_steadyAt (c : Cursor) (k : Scancode) : (s.setQWr c).steadyAt k = s.steadyAt k := rfl
@[simp] theorem State.setQWr_ringRead (c : Cursor) (k : Cursor) : (s.setQWr c).ringRead k = s.ringRead k := rfl
@[simp] theorem State.setQWr_counting (c : Cursor) : (s.setQWr c).counting = s.counting := rfl

/-! ### setQRd -/

@[simp] theorem State.setQRd_keyState (c : Cursor) : (s.setQRd c).keyState = s.keyState := rfl
@[simp] theorem State.setQRd_steady (c : Cursor) : (s.setQRd c).steady = s.steady := rfl
@[simp] theorem State.setQRd_qMem (c : Cursor) : (s.setQRd c).qMem = s.qMem := rfl
@[simp] theorem State.setQRd_qWr (c : Cursor) : (s.setQRd c).qWr = s.qWr := rfl
@[simp] theorem State.setQRd_qRd (c : Cursor) : (s.setQRd c).qRd = c := rfl
@[simp] theorem State.setQRd_delayTicks (c : Cursor) : (s.setQRd c).delayTicks = s.delayTicks := rfl
@[simp] theorem State.setQRd_rateTicks (c : Cursor) : (s.setQRd c).rateTicks = s.rateTicks := rfl
@[simp] theorem State.setQRd_countdown (c : Cursor) : (s.setQRd c).countdown = s.countdown := rfl
@[simp] theorem State.setQRd_lastByte (c : Cursor) : (s.setQRd c).lastByte = s.lastByte := rfl
@[simp] theorem State.setQRd_capsState (c : Cursor) : (s.setQRd c).capsState = s.capsState := rfl
@[simp] theorem State.setQRd_ledRed (c : Cursor) : (s.setQRd c).ledRed = s.ledRed := rfl
@[simp] theorem State.setQRd_ledGreen (c : Cursor) : (s.setQRd c).ledGreen = s.ledGreen := rfl
@[simp] theorem State.setQRd_ledBlue (c : Cursor) : (s.setQRd c).ledBlue = s.ledBlue := rfl
@[simp] theorem State.setQRd_ledCaps (c : Cursor) : (s.setQRd c).ledCaps = s.ledCaps := rfl
@[simp] theorem State.setQRd_tx (c : Cursor) : (s.setQRd c).tx = s.tx := rfl
@[simp] theorem State.setQRd_pending (c : Cursor) : (s.setQRd c).pending = s.pending := rfl
@[simp] theorem State.setQRd_envIndex (c : Cursor) : (s.setQRd c).envIndex = s.envIndex := rfl
@[simp] theorem State.setQRd_epoch (c : Cursor) : (s.setQRd c).epoch = s.epoch := rfl
@[simp] theorem State.setQRd_keyAt (c : Cursor) (k : Scancode) : (s.setQRd c).keyAt k = s.keyAt k := rfl
@[simp] theorem State.setQRd_steadyAt (c : Cursor) (k : Scancode) : (s.setQRd c).steadyAt k = s.steadyAt k := rfl
@[simp] theorem State.setQRd_ringRead (c : Cursor) (k : Cursor) : (s.setQRd c).ringRead k = s.ringRead k := rfl
@[simp] theorem State.setQRd_counting (c : Cursor) : (s.setQRd c).counting = s.counting := rfl

/-! ### setDelayTicks -/

@[simp] theorem State.setDelayTicks_keyState (n : Byte) : (s.setDelayTicks n).keyState = s.keyState := rfl
@[simp] theorem State.setDelayTicks_steady (n : Byte) : (s.setDelayTicks n).steady = s.steady := rfl
@[simp] theorem State.setDelayTicks_qMem (n : Byte) : (s.setDelayTicks n).qMem = s.qMem := rfl
@[simp] theorem State.setDelayTicks_qWr (n : Byte) : (s.setDelayTicks n).qWr = s.qWr := rfl
@[simp] theorem State.setDelayTicks_qRd (n : Byte) : (s.setDelayTicks n).qRd = s.qRd := rfl
@[simp] theorem State.setDelayTicks_delayTicks (n : Byte) : (s.setDelayTicks n).delayTicks = n := rfl
@[simp] theorem State.setDelayTicks_rateTicks (n : Byte) : (s.setDelayTicks n).rateTicks = s.rateTicks := rfl
@[simp] theorem State.setDelayTicks_countdown (n : Byte) : (s.setDelayTicks n).countdown = s.countdown := rfl
@[simp] theorem State.setDelayTicks_lastByte (n : Byte) : (s.setDelayTicks n).lastByte = s.lastByte := rfl
@[simp] theorem State.setDelayTicks_capsState (n : Byte) : (s.setDelayTicks n).capsState = s.capsState := rfl
@[simp] theorem State.setDelayTicks_ledRed (n : Byte) : (s.setDelayTicks n).ledRed = s.ledRed := rfl
@[simp] theorem State.setDelayTicks_ledGreen (n : Byte) : (s.setDelayTicks n).ledGreen = s.ledGreen := rfl
@[simp] theorem State.setDelayTicks_ledBlue (n : Byte) : (s.setDelayTicks n).ledBlue = s.ledBlue := rfl
@[simp] theorem State.setDelayTicks_ledCaps (n : Byte) : (s.setDelayTicks n).ledCaps = s.ledCaps := rfl
@[simp] theorem State.setDelayTicks_tx (n : Byte) : (s.setDelayTicks n).tx = s.tx := rfl
@[simp] theorem State.setDelayTicks_pending (n : Byte) : (s.setDelayTicks n).pending = s.pending := rfl
@[simp] theorem State.setDelayTicks_envIndex (n : Byte) : (s.setDelayTicks n).envIndex = s.envIndex := rfl
@[simp] theorem State.setDelayTicks_epoch (n : Byte) : (s.setDelayTicks n).epoch = s.epoch := rfl
@[simp] theorem State.setDelayTicks_keyAt (n : Byte) (k : Scancode) : (s.setDelayTicks n).keyAt k = s.keyAt k := rfl
@[simp] theorem State.setDelayTicks_steadyAt (n : Byte) (k : Scancode) : (s.setDelayTicks n).steadyAt k = s.steadyAt k := rfl
@[simp] theorem State.setDelayTicks_ringRead (n : Byte) (k : Cursor) : (s.setDelayTicks n).ringRead k = s.ringRead k := rfl
@[simp] theorem State.setDelayTicks_occupancy (n : Byte) : (s.setDelayTicks n).occupancy = s.occupancy := rfl
@[simp] theorem State.setDelayTicks_counting (n : Byte) : (s.setDelayTicks n).counting = s.counting := rfl

/-! ### setRateTicks -/

@[simp] theorem State.setRateTicks_keyState (n : Byte) : (s.setRateTicks n).keyState = s.keyState := rfl
@[simp] theorem State.setRateTicks_steady (n : Byte) : (s.setRateTicks n).steady = s.steady := rfl
@[simp] theorem State.setRateTicks_qMem (n : Byte) : (s.setRateTicks n).qMem = s.qMem := rfl
@[simp] theorem State.setRateTicks_qWr (n : Byte) : (s.setRateTicks n).qWr = s.qWr := rfl
@[simp] theorem State.setRateTicks_qRd (n : Byte) : (s.setRateTicks n).qRd = s.qRd := rfl
@[simp] theorem State.setRateTicks_delayTicks (n : Byte) : (s.setRateTicks n).delayTicks = s.delayTicks := rfl
@[simp] theorem State.setRateTicks_rateTicks (n : Byte) : (s.setRateTicks n).rateTicks = n := rfl
@[simp] theorem State.setRateTicks_countdown (n : Byte) : (s.setRateTicks n).countdown = s.countdown := rfl
@[simp] theorem State.setRateTicks_lastByte (n : Byte) : (s.setRateTicks n).lastByte = s.lastByte := rfl
@[simp] theorem State.setRateTicks_capsState (n : Byte) : (s.setRateTicks n).capsState = s.capsState := rfl
@[simp] theorem State.setRateTicks_ledRed (n : Byte) : (s.setRateTicks n).ledRed = s.ledRed := rfl
@[simp] theorem State.setRateTicks_ledGreen (n : Byte) : (s.setRateTicks n).ledGreen = s.ledGreen := rfl
@[simp] theorem State.setRateTicks_ledBlue (n : Byte) : (s.setRateTicks n).ledBlue = s.ledBlue := rfl
@[simp] theorem State.setRateTicks_ledCaps (n : Byte) : (s.setRateTicks n).ledCaps = s.ledCaps := rfl
@[simp] theorem State.setRateTicks_tx (n : Byte) : (s.setRateTicks n).tx = s.tx := rfl
@[simp] theorem State.setRateTicks_pending (n : Byte) : (s.setRateTicks n).pending = s.pending := rfl
@[simp] theorem State.setRateTicks_envIndex (n : Byte) : (s.setRateTicks n).envIndex = s.envIndex := rfl
@[simp] theorem State.setRateTicks_epoch (n : Byte) : (s.setRateTicks n).epoch = s.epoch := rfl
@[simp] theorem State.setRateTicks_keyAt (n : Byte) (k : Scancode) : (s.setRateTicks n).keyAt k = s.keyAt k := rfl
@[simp] theorem State.setRateTicks_steadyAt (n : Byte) (k : Scancode) : (s.setRateTicks n).steadyAt k = s.steadyAt k := rfl
@[simp] theorem State.setRateTicks_ringRead (n : Byte) (k : Cursor) : (s.setRateTicks n).ringRead k = s.ringRead k := rfl
@[simp] theorem State.setRateTicks_occupancy (n : Byte) : (s.setRateTicks n).occupancy = s.occupancy := rfl
@[simp] theorem State.setRateTicks_counting (n : Byte) : (s.setRateTicks n).counting = s.counting := rfl

/-! ### setCountdown -/

@[simp] theorem State.setCountdown_keyState (n : Byte) : (s.setCountdown n).keyState = s.keyState := rfl
@[simp] theorem State.setCountdown_steady (n : Byte) : (s.setCountdown n).steady = s.steady := rfl
@[simp] theorem State.setCountdown_qMem (n : Byte) : (s.setCountdown n).qMem = s.qMem := rfl
@[simp] theorem State.setCountdown_qWr (n : Byte) : (s.setCountdown n).qWr = s.qWr := rfl
@[simp] theorem State.setCountdown_qRd (n : Byte) : (s.setCountdown n).qRd = s.qRd := rfl
@[simp] theorem State.setCountdown_delayTicks (n : Byte) : (s.setCountdown n).delayTicks = s.delayTicks := rfl
@[simp] theorem State.setCountdown_rateTicks (n : Byte) : (s.setCountdown n).rateTicks = s.rateTicks := rfl
@[simp] theorem State.setCountdown_countdown (n : Byte) : (s.setCountdown n).countdown = n := rfl
@[simp] theorem State.setCountdown_lastByte (n : Byte) : (s.setCountdown n).lastByte = s.lastByte := rfl
@[simp] theorem State.setCountdown_capsState (n : Byte) : (s.setCountdown n).capsState = s.capsState := rfl
@[simp] theorem State.setCountdown_ledRed (n : Byte) : (s.setCountdown n).ledRed = s.ledRed := rfl
@[simp] theorem State.setCountdown_ledGreen (n : Byte) : (s.setCountdown n).ledGreen = s.ledGreen := rfl
@[simp] theorem State.setCountdown_ledBlue (n : Byte) : (s.setCountdown n).ledBlue = s.ledBlue := rfl
@[simp] theorem State.setCountdown_ledCaps (n : Byte) : (s.setCountdown n).ledCaps = s.ledCaps := rfl
@[simp] theorem State.setCountdown_tx (n : Byte) : (s.setCountdown n).tx = s.tx := rfl
@[simp] theorem State.setCountdown_pending (n : Byte) : (s.setCountdown n).pending = s.pending := rfl
@[simp] theorem State.setCountdown_envIndex (n : Byte) : (s.setCountdown n).envIndex = s.envIndex := rfl
@[simp] theorem State.setCountdown_epoch (n : Byte) : (s.setCountdown n).epoch = s.epoch := rfl
@[simp] theorem State.setCountdown_keyAt (n : Byte) (k : Scancode) : (s.setCountdown n).keyAt k = s.keyAt k := rfl
@[simp] theorem State.setCountdown_steadyAt (n : Byte) (k : Scancode) : (s.setCountdown n).steadyAt k = s.steadyAt k := rfl
@[simp] theorem State.setCountdown_ringRead (n : Byte) (k : Cursor) : (s.setCountdown n).ringRead k = s.ringRead k := rfl
@[simp] theorem State.setCountdown_occupancy (n : Byte) : (s.setCountdown n).occupancy = s.occupancy := rfl

/-! ### setLastByte -/

@[simp] theorem State.setLastByte_keyState (b : Byte) : (s.setLastByte b).keyState = s.keyState := rfl
@[simp] theorem State.setLastByte_steady (b : Byte) : (s.setLastByte b).steady = s.steady := rfl
@[simp] theorem State.setLastByte_qMem (b : Byte) : (s.setLastByte b).qMem = s.qMem := rfl
@[simp] theorem State.setLastByte_qWr (b : Byte) : (s.setLastByte b).qWr = s.qWr := rfl
@[simp] theorem State.setLastByte_qRd (b : Byte) : (s.setLastByte b).qRd = s.qRd := rfl
@[simp] theorem State.setLastByte_delayTicks (b : Byte) : (s.setLastByte b).delayTicks = s.delayTicks := rfl
@[simp] theorem State.setLastByte_rateTicks (b : Byte) : (s.setLastByte b).rateTicks = s.rateTicks := rfl
@[simp] theorem State.setLastByte_countdown (b : Byte) : (s.setLastByte b).countdown = s.countdown := rfl
@[simp] theorem State.setLastByte_lastByte (b : Byte) : (s.setLastByte b).lastByte = b := rfl
@[simp] theorem State.setLastByte_capsState (b : Byte) : (s.setLastByte b).capsState = s.capsState := rfl
@[simp] theorem State.setLastByte_ledRed (b : Byte) : (s.setLastByte b).ledRed = s.ledRed := rfl
@[simp] theorem State.setLastByte_ledGreen (b : Byte) : (s.setLastByte b).ledGreen = s.ledGreen := rfl
@[simp] theorem State.setLastByte_ledBlue (b : Byte) : (s.setLastByte b).ledBlue = s.ledBlue := rfl
@[simp] theorem State.setLastByte_ledCaps (b : Byte) : (s.setLastByte b).ledCaps = s.ledCaps := rfl
@[simp] theorem State.setLastByte_tx (b : Byte) : (s.setLastByte b).tx = s.tx := rfl
@[simp] theorem State.setLastByte_pending (b : Byte) : (s.setLastByte b).pending = s.pending := rfl
@[simp] theorem State.setLastByte_envIndex (b : Byte) : (s.setLastByte b).envIndex = s.envIndex := rfl
@[simp] theorem State.setLastByte_epoch (b : Byte) : (s.setLastByte b).epoch = s.epoch := rfl
@[simp] theorem State.setLastByte_keyAt (b : Byte) (k : Scancode) : (s.setLastByte b).keyAt k = s.keyAt k := rfl
@[simp] theorem State.setLastByte_steadyAt (b : Byte) (k : Scancode) : (s.setLastByte b).steadyAt k = s.steadyAt k := rfl
@[simp] theorem State.setLastByte_ringRead (b : Byte) (k : Cursor) : (s.setLastByte b).ringRead k = s.ringRead k := rfl
@[simp] theorem State.setLastByte_occupancy (b : Byte) : (s.setLastByte b).occupancy = s.occupancy := rfl
@[simp] theorem State.setLastByte_counting (b : Byte) : (s.setLastByte b).counting = s.counting := rfl

/-! ### setCapsState -/

@[simp] theorem State.setCapsState_keyState (b : Bool) : (s.setCapsState b).keyState = s.keyState := rfl
@[simp] theorem State.setCapsState_steady (b : Bool) : (s.setCapsState b).steady = s.steady := rfl
@[simp] theorem State.setCapsState_qMem (b : Bool) : (s.setCapsState b).qMem = s.qMem := rfl
@[simp] theorem State.setCapsState_qWr (b : Bool) : (s.setCapsState b).qWr = s.qWr := rfl
@[simp] theorem State.setCapsState_qRd (b : Bool) : (s.setCapsState b).qRd = s.qRd := rfl
@[simp] theorem State.setCapsState_delayTicks (b : Bool) : (s.setCapsState b).delayTicks = s.delayTicks := rfl
@[simp] theorem State.setCapsState_rateTicks (b : Bool) : (s.setCapsState b).rateTicks = s.rateTicks := rfl
@[simp] theorem State.setCapsState_countdown (b : Bool) : (s.setCapsState b).countdown = s.countdown := rfl
@[simp] theorem State.setCapsState_lastByte (b : Bool) : (s.setCapsState b).lastByte = s.lastByte := rfl
@[simp] theorem State.setCapsState_capsState (b : Bool) : (s.setCapsState b).capsState = b := rfl
@[simp] theorem State.setCapsState_ledRed (b : Bool) : (s.setCapsState b).ledRed = s.ledRed := rfl
@[simp] theorem State.setCapsState_ledGreen (b : Bool) : (s.setCapsState b).ledGreen = s.ledGreen := rfl
@[simp] theorem State.setCapsState_ledBlue (b : Bool) : (s.setCapsState b).ledBlue = s.ledBlue := rfl
@[simp] theorem State.setCapsState_ledCaps (b : Bool) : (s.setCapsState b).ledCaps = s.ledCaps := rfl
@[simp] theorem State.setCapsState_tx (b : Bool) : (s.setCapsState b).tx = s.tx := rfl
@[simp] theorem State.setCapsState_pending (b : Bool) : (s.setCapsState b).pending = s.pending := rfl
@[simp] theorem State.setCapsState_envIndex (b : Bool) : (s.setCapsState b).envIndex = s.envIndex := rfl
@[simp] theorem State.setCapsState_epoch (b : Bool) : (s.setCapsState b).epoch = s.epoch := rfl
@[simp] theorem State.setCapsState_keyAt (b : Bool) (k : Scancode) : (s.setCapsState b).keyAt k = s.keyAt k := rfl
@[simp] theorem State.setCapsState_steadyAt (b : Bool) (k : Scancode) : (s.setCapsState b).steadyAt k = s.steadyAt k := rfl
@[simp] theorem State.setCapsState_ringRead (b : Bool) (k : Cursor) : (s.setCapsState b).ringRead k = s.ringRead k := rfl
@[simp] theorem State.setCapsState_occupancy (b : Bool) : (s.setCapsState b).occupancy = s.occupancy := rfl
@[simp] theorem State.setCapsState_counting (b : Bool) : (s.setCapsState b).counting = s.counting := rfl

/-! ### setLedRed -/

@[simp] theorem State.setLedRed_keyState (b : Bool) : (s.setLedRed b).keyState = s.keyState := rfl
@[simp] theorem State.setLedRed_steady (b : Bool) : (s.setLedRed b).steady = s.steady := rfl
@[simp] theorem State.setLedRed_qMem (b : Bool) : (s.setLedRed b).qMem = s.qMem := rfl
@[simp] theorem State.setLedRed_qWr (b : Bool) : (s.setLedRed b).qWr = s.qWr := rfl
@[simp] theorem State.setLedRed_qRd (b : Bool) : (s.setLedRed b).qRd = s.qRd := rfl
@[simp] theorem State.setLedRed_delayTicks (b : Bool) : (s.setLedRed b).delayTicks = s.delayTicks := rfl
@[simp] theorem State.setLedRed_rateTicks (b : Bool) : (s.setLedRed b).rateTicks = s.rateTicks := rfl
@[simp] theorem State.setLedRed_countdown (b : Bool) : (s.setLedRed b).countdown = s.countdown := rfl
@[simp] theorem State.setLedRed_lastByte (b : Bool) : (s.setLedRed b).lastByte = s.lastByte := rfl
@[simp] theorem State.setLedRed_capsState (b : Bool) : (s.setLedRed b).capsState = s.capsState := rfl
@[simp] theorem State.setLedRed_ledRed (b : Bool) : (s.setLedRed b).ledRed = b := rfl
@[simp] theorem State.setLedRed_ledGreen (b : Bool) : (s.setLedRed b).ledGreen = s.ledGreen := rfl
@[simp] theorem State.setLedRed_ledBlue (b : Bool) : (s.setLedRed b).ledBlue = s.ledBlue := rfl
@[simp] theorem State.setLedRed_ledCaps (b : Bool) : (s.setLedRed b).ledCaps = s.ledCaps := rfl
@[simp] theorem State.setLedRed_tx (b : Bool) : (s.setLedRed b).tx = s.tx := rfl
@[simp] theorem State.setLedRed_pending (b : Bool) : (s.setLedRed b).pending = s.pending := rfl
@[simp] theorem State.setLedRed_envIndex (b : Bool) : (s.setLedRed b).envIndex = s.envIndex := rfl
@[simp] theorem State.setLedRed_epoch (b : Bool) : (s.setLedRed b).epoch = s.epoch := rfl
@[simp] theorem State.setLedRed_keyAt (b : Bool) (k : Scancode) : (s.setLedRed b).keyAt k = s.keyAt k := rfl
@[simp] theorem State.setLedRed_steadyAt (b : Bool) (k : Scancode) : (s.setLedRed b).steadyAt k = s.steadyAt k := rfl
@[simp] theorem State.setLedRed_ringRead (b : Bool) (k : Cursor) : (s.setLedRed b).ringRead k = s.ringRead k := rfl
@[simp] theorem State.setLedRed_occupancy (b : Bool) : (s.setLedRed b).occupancy = s.occupancy := rfl
@[simp] theorem State.setLedRed_counting (b : Bool) : (s.setLedRed b).counting = s.counting := rfl

/-! ### setLedGreen -/

@[simp] theorem State.setLedGreen_keyState (b : Bool) : (s.setLedGreen b).keyState = s.keyState := rfl
@[simp] theorem State.setLedGreen_steady (b : Bool) : (s.setLedGreen b).steady = s.steady := rfl
@[simp] theorem State.setLedGreen_qMem (b : Bool) : (s.setLedGreen b).qMem = s.qMem := rfl
@[simp] theorem State.setLedGreen_qWr (b : Bool) : (s.setLedGreen b).qWr = s.qWr := rfl
@[simp] theorem State.setLedGreen_qRd (b : Bool) : (s.setLedGreen b).qRd = s.qRd := rfl
@[simp] theorem State.setLedGreen_delayTicks (b : Bool) : (s.setLedGreen b).delayTicks = s.delayTicks := rfl
@[simp] theorem State.setLedGreen_rateTicks (b : Bool) : (s.setLedGreen b).rateTicks = s.rateTicks := rfl
@[simp] theorem State.setLedGreen_countdown (b : Bool) : (s.setLedGreen b).countdown = s.countdown := rfl
@[simp] theorem State.setLedGreen_lastByte (b : Bool) : (s.setLedGreen b).lastByte = s.lastByte := rfl
@[simp] theorem State.setLedGreen_capsState (b : Bool) : (s.setLedGreen b).capsState = s.capsState := rfl
@[simp] theorem State.setLedGreen_ledRed (b : Bool) : (s.setLedGreen b).ledRed = s.ledRed := rfl
@[simp] theorem State.setLedGreen_ledGreen (b : Bool) : (s.setLedGreen b).ledGreen = b := rfl
@[simp] theorem State.setLedGreen_ledBlue (b : Bool) : (s.setLedGreen b).ledBlue = s.ledBlue := rfl
@[simp] theorem State.setLedGreen_ledCaps (b : Bool) : (s.setLedGreen b).ledCaps = s.ledCaps := rfl
@[simp] theorem State.setLedGreen_tx (b : Bool) : (s.setLedGreen b).tx = s.tx := rfl
@[simp] theorem State.setLedGreen_pending (b : Bool) : (s.setLedGreen b).pending = s.pending := rfl
@[simp] theorem State.setLedGreen_envIndex (b : Bool) : (s.setLedGreen b).envIndex = s.envIndex := rfl
@[simp] theorem State.setLedGreen_epoch (b : Bool) : (s.setLedGreen b).epoch = s.epoch := rfl
@[simp] theorem State.setLedGreen_keyAt (b : Bool) (k : Scancode) : (s.setLedGreen b).keyAt k = s.keyAt k := rfl
@[simp] theorem State.setLedGreen_steadyAt (b : Bool) (k : Scancode) : (s.setLedGreen b).steadyAt k = s.steadyAt k := rfl
@[simp] theorem State.setLedGreen_ringRead (b : Bool) (k : Cursor) : (s.setLedGreen b).ringRead k = s.ringRead k := rfl
@[simp] theorem State.setLedGreen_occupancy (b : Bool) : (s.setLedGreen b).occupancy = s.occupancy := rfl
@[simp] theorem State.setLedGreen_counting (b : Bool) : (s.setLedGreen b).counting = s.counting := rfl

/-! ### setLedBlue -/

@[simp] theorem State.setLedBlue_keyState (b : Bool) : (s.setLedBlue b).keyState = s.keyState := rfl
@[simp] theorem State.setLedBlue_steady (b : Bool) : (s.setLedBlue b).steady = s.steady := rfl
@[simp] theorem State.setLedBlue_qMem (b : Bool) : (s.setLedBlue b).qMem = s.qMem := rfl
@[simp] theorem State.setLedBlue_qWr (b : Bool) : (s.setLedBlue b).qWr = s.qWr := rfl
@[simp] theorem State.setLedBlue_qRd (b : Bool) : (s.setLedBlue b).qRd = s.qRd := rfl
@[simp] theorem State.setLedBlue_delayTicks (b : Bool) : (s.setLedBlue b).delayTicks = s.delayTicks := rfl
@[simp] theorem State.setLedBlue_rateTicks (b : Bool) : (s.setLedBlue b).rateTicks = s.rateTicks := rfl
@[simp] theorem State.setLedBlue_countdown (b : Bool) : (s.setLedBlue b).countdown = s.countdown := rfl
@[simp] theorem State.setLedBlue_lastByte (b : Bool) : (s.setLedBlue b).lastByte = s.lastByte := rfl
@[simp] theorem State.setLedBlue_capsState (b : Bool) : (s.setLedBlue b).capsState = s.capsState := rfl
@[simp] theorem State.setLedBlue_ledRed (b : Bool) : (s.setLedBlue b).ledRed = s.ledRed := rfl
@[simp] theorem State.setLedBlue_ledGreen (b : Bool) : (s.setLedBlue b).ledGreen = s.ledGreen := rfl
@[simp] theorem State.setLedBlue_ledBlue (b : Bool) : (s.setLedBlue b).ledBlue = b := rfl
@[simp] theorem State.setLedBlue_ledCaps (b : Bool) : (s.setLedBlue b).ledCaps = s.ledCaps := rfl
@[simp] theorem State.setLedBlue_tx (b : Bool) : (s.setLedBlue b).tx = s.tx := rfl
@[simp] theorem State.setLedBlue_pending (b : Bool) : (s.setLedBlue b).pending = s.pending := rfl
@[simp] theorem State.setLedBlue_envIndex (b : Bool) : (s.setLedBlue b).envIndex = s.envIndex := rfl
@[simp] theorem State.setLedBlue_epoch (b : Bool) : (s.setLedBlue b).epoch = s.epoch := rfl
@[simp] theorem State.setLedBlue_keyAt (b : Bool) (k : Scancode) : (s.setLedBlue b).keyAt k = s.keyAt k := rfl
@[simp] theorem State.setLedBlue_steadyAt (b : Bool) (k : Scancode) : (s.setLedBlue b).steadyAt k = s.steadyAt k := rfl
@[simp] theorem State.setLedBlue_ringRead (b : Bool) (k : Cursor) : (s.setLedBlue b).ringRead k = s.ringRead k := rfl
@[simp] theorem State.setLedBlue_occupancy (b : Bool) : (s.setLedBlue b).occupancy = s.occupancy := rfl
@[simp] theorem State.setLedBlue_counting (b : Bool) : (s.setLedBlue b).counting = s.counting := rfl

/-! ### setLedCaps -/

@[simp] theorem State.setLedCaps_keyState (b : Bool) : (s.setLedCaps b).keyState = s.keyState := rfl
@[simp] theorem State.setLedCaps_steady (b : Bool) : (s.setLedCaps b).steady = s.steady := rfl
@[simp] theorem State.setLedCaps_qMem (b : Bool) : (s.setLedCaps b).qMem = s.qMem := rfl
@[simp] theorem State.setLedCaps_qWr (b : Bool) : (s.setLedCaps b).qWr = s.qWr := rfl
@[simp] theorem State.setLedCaps_qRd (b : Bool) : (s.setLedCaps b).qRd = s.qRd := rfl
@[simp] theorem State.setLedCaps_delayTicks (b : Bool) : (s.setLedCaps b).delayTicks = s.delayTicks := rfl
@[simp] theorem State.setLedCaps_rateTicks (b : Bool) : (s.setLedCaps b).rateTicks = s.rateTicks := rfl
@[simp] theorem State.setLedCaps_countdown (b : Bool) : (s.setLedCaps b).countdown = s.countdown := rfl
@[simp] theorem State.setLedCaps_lastByte (b : Bool) : (s.setLedCaps b).lastByte = s.lastByte := rfl
@[simp] theorem State.setLedCaps_capsState (b : Bool) : (s.setLedCaps b).capsState = s.capsState := rfl
@[simp] theorem State.setLedCaps_ledRed (b : Bool) : (s.setLedCaps b).ledRed = s.ledRed := rfl
@[simp] theorem State.setLedCaps_ledGreen (b : Bool) : (s.setLedCaps b).ledGreen = s.ledGreen := rfl
@[simp] theorem State.setLedCaps_ledBlue (b : Bool) : (s.setLedCaps b).ledBlue = s.ledBlue := rfl
@[simp] theorem State.setLedCaps_ledCaps (b : Bool) : (s.setLedCaps b).ledCaps = b := rfl
@[simp] theorem State.setLedCaps_tx (b : Bool) : (s.setLedCaps b).tx = s.tx := rfl
@[simp] theorem State.setLedCaps_pending (b : Bool) : (s.setLedCaps b).pending = s.pending := rfl
@[simp] theorem State.setLedCaps_envIndex (b : Bool) : (s.setLedCaps b).envIndex = s.envIndex := rfl
@[simp] theorem State.setLedCaps_epoch (b : Bool) : (s.setLedCaps b).epoch = s.epoch := rfl
@[simp] theorem State.setLedCaps_keyAt (b : Bool) (k : Scancode) : (s.setLedCaps b).keyAt k = s.keyAt k := rfl
@[simp] theorem State.setLedCaps_steadyAt (b : Bool) (k : Scancode) : (s.setLedCaps b).steadyAt k = s.steadyAt k := rfl
@[simp] theorem State.setLedCaps_ringRead (b : Bool) (k : Cursor) : (s.setLedCaps b).ringRead k = s.ringRead k := rfl
@[simp] theorem State.setLedCaps_occupancy (b : Bool) : (s.setLedCaps b).occupancy = s.occupancy := rfl
@[simp] theorem State.setLedCaps_counting (b : Bool) : (s.setLedCaps b).counting = s.counting := rfl

/-! ### send -/

@[simp] theorem State.send_keyState (b : Byte) : (s.send b).keyState = s.keyState := rfl
@[simp] theorem State.send_steady (b : Byte) : (s.send b).steady = s.steady := rfl
@[simp] theorem State.send_qMem (b : Byte) : (s.send b).qMem = s.qMem := rfl
@[simp] theorem State.send_qWr (b : Byte) : (s.send b).qWr = s.qWr := rfl
@[simp] theorem State.send_qRd (b : Byte) : (s.send b).qRd = s.qRd := rfl
@[simp] theorem State.send_delayTicks (b : Byte) : (s.send b).delayTicks = s.delayTicks := rfl
@[simp] theorem State.send_rateTicks (b : Byte) : (s.send b).rateTicks = s.rateTicks := rfl
@[simp] theorem State.send_countdown (b : Byte) : (s.send b).countdown = s.countdown := rfl
@[simp] theorem State.send_lastByte (b : Byte) : (s.send b).lastByte = s.lastByte := rfl
@[simp] theorem State.send_capsState (b : Byte) : (s.send b).capsState = s.capsState := rfl
@[simp] theorem State.send_ledRed (b : Byte) : (s.send b).ledRed = s.ledRed := rfl
@[simp] theorem State.send_ledGreen (b : Byte) : (s.send b).ledGreen = s.ledGreen := rfl
@[simp] theorem State.send_ledBlue (b : Byte) : (s.send b).ledBlue = s.ledBlue := rfl
@[simp] theorem State.send_ledCaps (b : Byte) : (s.send b).ledCaps = s.ledCaps := rfl
@[simp] theorem State.send_tx (b : Byte) : (s.send b).tx = s.tx ++ [b] := rfl
@[simp] theorem State.send_pending (b : Byte) : (s.send b).pending = s.pending := rfl
@[simp] theorem State.send_envIndex (b : Byte) : (s.send b).envIndex = s.envIndex := rfl
@[simp] theorem State.send_epoch (b : Byte) : (s.send b).epoch = s.epoch := rfl
@[simp] theorem State.send_keyAt (b : Byte) (k : Scancode) : (s.send b).keyAt k = s.keyAt k := rfl
@[simp] theorem State.send_steadyAt (b : Byte) (k : Scancode) : (s.send b).steadyAt k = s.steadyAt k := rfl
@[simp] theorem State.send_ringRead (b : Byte) (k : Cursor) : (s.send b).ringRead k = s.ringRead k := rfl
@[simp] theorem State.send_occupancy (b : Byte) : (s.send b).occupancy = s.occupancy := rfl
@[simp] theorem State.send_counting (b : Byte) : (s.send b).counting = s.counting := rfl

end Sys2Proof.Machine
end

