-- ==== Sys2Proof/Laws/Ring.lean ====
section
/-! SUPPORT. The ring storage, its cursors, push and pop. -/

namespace Sys2Proof.Machine

/-! ### The cells -/

/-- A slot reads back what was last written to it, and a write leaves every other slot alone. -/
theorem Memory.lookup_write (a k : Nat) (b : Byte) (m : Memory) :
    Memory.lookup k (Memory.write a b m) = if k = a then some b else Memory.lookup k m := by
  induction m with
  | nil => simp [Memory.write, Memory.lookup, eq_comm (a := a)]
  | cons c rest ih =>
    simp only [Memory.write]
    split
    · by_cases h : k = a
      · simp [Memory.lookup, h]
      · simp [Memory.lookup, h, Ne.symm h]
    · split
      · rename_i h1 h2
        by_cases h : k = a
        · simp [Memory.lookup, h]
        · have hc : ¬ c.1 = k := by omega
          simp [Memory.lookup, h, Ne.symm h, hc]
      · rename_i h1 h2
        simp only [Memory.lookup, ih]
        by_cases h : c.1 = k
        · have hk : k ≠ a := by omega
          simp [h, hk]
        · simp [h]

theorem Memory.risingFrom_weaken {low low' : Nat} {m : Memory} (h : low' ≤ low)
    (hm : Memory.risingFrom low m = true) : Memory.risingFrom low' m = true := by
  cases m with
  | nil => rfl
  | cons c rest =>
    simp only [Memory.risingFrom, Bool.and_eq_true, decide_eq_true_eq] at hm ⊢
    exact ⟨⟨Nat.le_trans h hm.1.1, hm.1.2⟩, hm.2⟩

theorem Memory.risingFrom_write {a : Nat} (b : Byte) (ha : a < Config.QUEUE_CAP) {m : Memory} :
    ∀ {low : Nat}, low ≤ a → Memory.risingFrom low m = true → Memory.risingFrom low (Memory.write a b m) = true := by
  induction m with
  | nil => intro low hl _; simp [Memory.write, Memory.risingFrom, hl, ha]
  | cons c rest ih =>
    intro low hl hm
    simp only [Memory.risingFrom, Bool.and_eq_true, decide_eq_true_eq] at hm
    obtain ⟨⟨h1, h2⟩, h3⟩ := hm
    simp only [Memory.write]
    split
    · rename_i h4
      simp only [Memory.risingFrom, Bool.and_eq_true, decide_eq_true_eq]
      exact ⟨⟨hl, ha⟩, ⟨by omega, h2⟩, h3⟩
    · split
      · rename_i h4 h5
        subst h5
        simp only [Memory.risingFrom, Bool.and_eq_true, decide_eq_true_eq]
        exact ⟨⟨hl, ha⟩, h3⟩
      · rename_i h4 h5
        simp only [Memory.risingFrom, Bool.and_eq_true, decide_eq_true_eq]
        exact ⟨⟨h1, h2⟩, ih (by omega) h3⟩

/-- A write to a slot of the ring keeps the canonical form. -/
theorem Memory.wf_write (a : Cursor) (b : Byte) {m : Memory} (h : m.wf = true) :
    (Memory.write a.val b m).wf = true :=
  Memory.risingFrom_write b a.isLt (Nat.zero_le _) h

/-- What the slots read after a write. -/
@[simp] theorem State.ringRead_ringWrite (s : State) (a k : Cursor) (b : Byte) :
    (s.ringWrite a b).ringRead k = if k = a then b else s.ringRead k := by
  simp only [State.ringRead, State.ringWrite, Memory.lookup_write, ← Fin.ext_iff]
  by_cases h : k = a <;> simp [h]

/-! ### Cursors and occupancy -/

/-- Both cursors lie below `QUEUE_CAP` (R30 (a)). -/
theorem cursor_lt (c : Cursor) : c.val < 16 := c.isLt

@[simp] theorem advance_val (c : Cursor) : (advance c).val = (c.val + 1) % 16 := rfl

@[simp] theorem State.slotAfter_val (s : State) (k : Nat) : (s.slotAfter k).val = (s.qRd.val + k) % 16 := rfl

/-- The occupancy as a number: how far `q_wr` is ahead of `q_rd`. -/
theorem State.occupancy_eq (s : State) : s.occupancy = (s.qWr.val + 16 - s.qRd.val) % 16 := by
  have h1 := cursor_lt s.qWr
  have h2 := cursor_lt s.qRd
  simp only [State.occupancy, State.cursorDifference, BitVec.toNat_sub, BitVec.toNat_ofNat, Config.QUEUE_CAP]
  omega

theorem State.occupancy_lt (s : State) : s.occupancy < 16 := by
  rw [State.occupancy_eq]; omega

theorem State.queueEmpty_iff (s : State) : s.queueEmpty = true ↔ s.qWr = s.qRd := by
  have h1 := cursor_lt s.qWr
  have h2 := cursor_lt s.qRd
  simp only [State.queueEmpty, decide_eq_true_eq, State.occupancy_eq, Fin.ext_iff]
  omega

theorem State.occupancy_congr {s t : State} (hw : t.qWr = s.qWr) (hr : t.qRd = s.qRd) : t.occupancy = s.occupancy := by
  simp only [State.occupancy_eq, hw, hr]

/-! ### push and pop -/

@[simp] theorem push_keyState (e : Byte) (s : State) : (push e s).keyState = s.keyState := rfl
@[simp] theorem push_steady (e : Byte) (s : State) : (push e s).steady = s.steady := rfl
@[simp] theorem push_keyAt (e : Byte) (s : State) (k : Scancode) : (push e s).keyAt k = s.keyAt k := rfl
@[simp] theorem push_steadyAt (e : Byte) (s : State) (k : Scancode) : (push e s).steadyAt k = s.steadyAt k := rfl
@[simp] theorem push_qMem (e : Byte) (s : State) : (push e s).qMem = Memory.write s.qWr.val e s.qMem := rfl
@[simp] theorem push_qWr (e : Byte) (s : State) : (push e s).qWr = advance s.qWr := rfl
@[simp] theorem push_qRd (e : Byte) (s : State) : (push e s).qRd = s.qRd := rfl
@[simp] theorem push_epoch (e : Byte) (s : State) : (push e s).epoch = s.epoch := rfl
@[simp] theorem push_slotAfter (e : Byte) (s : State) (k : Nat) : (push e s).slotAfter k = s.slotAfter k := rfl

@[simp] theorem push_ringRead (e : Byte) (s : State) (k : Cursor) :
    (push e s).ringRead k = if k = s.qWr then e else s.ringRead k :=
  State.ringRead_ringWrite s s.qWr k e

/-- A push at occupancy 15 makes the queue read as empty; any other makes it one longer (R104). -/
theorem push_occupancy (e : Byte) (s : State) : (push e s).occupancy = (s.occupancy + 1) % 16 := by
  have h1 := cursor_lt s.qWr
  have h2 := cursor_lt s.qRd
  simp only [State.occupancy_eq, push_qWr, push_qRd, advance_val]
  omega

/-- A pop gives nothing and changes nothing, or it gives the byte at `q_rd` and moves `q_rd` on; it does nothing else. -/
theorem pop_cases (s : State) :
    (s.qWr = s.qRd ∧ pop s = (none, s)) ∨
    (s.qWr ≠ s.qRd ∧ pop s = (some (s.ringRead s.qRd), s.setQRd (advance s.qRd))) := by
  by_cases h : s.qWr = s.qRd
  · exact .inl ⟨h, by simp [pop, (State.queueEmpty_iff s).2 h]⟩
  · refine .inr ⟨h, ?_⟩
    have : ¬ s.queueEmpty = true := fun hq => h ((State.queueEmpty_iff s).1 hq)
    simp [pop, this]

theorem State.occupancy_pos {s : State} (h : s.qWr ≠ s.qRd) : 0 < s.occupancy := by
  have h1 := cursor_lt s.qWr
  have h2 := cursor_lt s.qRd
  have h3 : s.qWr.val ≠ s.qRd.val := fun hv => h (Fin.ext hv)
  rw [State.occupancy_eq]
  omega

/-- Reading one entry off a queue that holds some leaves one fewer. -/
theorem setQRd_occupancy {s : State} (h : s.qWr ≠ s.qRd) : (s.setQRd (advance s.qRd)).occupancy = s.occupancy - 1 := by
  have h1 := cursor_lt s.qWr
  have h2 := cursor_lt s.qRd
  have h3 : s.qWr.val ≠ s.qRd.val := fun hv => h (Fin.ext hv)
  simp only [State.occupancy_eq, State.setQRd_qWr, State.setQRd_qRd, advance_val]
  omega

end Sys2Proof.Machine
end

