-- ==== Sys2Proof/Laws/Debounce.lean ====
section
/-! SUPPORT. The debounce banks: one slot's reads and writes, one visit, the scanned set. -/

namespace Sys2Proof.Machine

theorem toNat_eq_iff {a b : Scancode} : a.toNat = b.toNat ↔ a = b := BitVec.toNat_inj

@[simp] theorem State.keyAt_setKey (s : State) (sc k : Scancode) (b : Bool) :
    (s.setKey sc b).keyAt k = if k = sc then b else s.keyAt k := by
  simp only [State.keyAt, State.setKey, Vector.getElem_set, toNat_eq_iff, eq_comm]

@[simp] theorem State.steadyAt_setSteady (s : State) (sc k : Scancode) (n : Byte) :
    (s.setSteady sc n).steadyAt k = if k = sc then n else s.steadyAt k := by
  simp only [State.steadyAt, State.setSteady, Vector.getElem_set, toNat_eq_iff, eq_comm]

@[simp] theorem State.keyAt_clearBanks (s : State) (k : Scancode) : s.clearBanks.keyAt k = false := by
  simp [State.keyAt, State.clearBanks]

@[simp] theorem State.steadyAt_clearBanks (s : State) (k : Scancode) : s.clearBanks.steadyAt k = 0 := by
  simp [State.steadyAt, State.clearBanks]

/-- Two banks with equal slots are equal. -/
theorem State.keyState_ext {s t : State} (h : ∀ k, s.keyAt k = t.keyAt k) : s.keyState = t.keyState := by
  ext i hi
  have := h (BitVec.ofNat 7 i)
  have hi' : i % 2 ^ 7 = i := Nat.mod_eq_of_lt hi
  simp only [State.keyAt, BitVec.toNat_ofNat, hi'] at this
  rw [this]

theorem State.steady_ext {s t : State} (h : ∀ k, s.steadyAt k = t.steadyAt k) : s.steady = t.steady := by
  ext i hi
  have := h (BitVec.ofNat 7 i)
  have hi' : i % 2 ^ 7 = i := Nat.mod_eq_of_lt hi
  simp only [State.steadyAt, BitVec.toNat_ofNat, hi'] at this
  rw [this]

/-! ### update, confirm, visit -/

/-- An update touches its own slot alone: there it leaves the level as the candidate and counts. -/
theorem update_eq (sc : Scancode) (p : Bool) (s : State) :
    update sc p s = { s with keyState := (update sc p s).keyState, steady := (update sc p s).steady } ∧
    (∀ k, (update sc p s).keyAt k = if k = sc then p else s.keyAt k) ∧
    (∀ k, (update sc p s).steadyAt k = if k = sc then countedTo p (s.keyAt sc) (s.steadyAt sc) else s.steadyAt k) := by
  unfold update countedTo
  by_cases hp : p = s.keyAt sc
  · have h1 : ¬ (p = true ∧ s.keyAt sc = false) := by rw [← hp]; cases p <;> simp
    have h2 : ¬ (p = false ∧ s.keyAt sc = true) := by rw [← hp]; cases p <;> simp
    rw [if_neg h1, if_neg h2]
    by_cases h0 : s.steadyAt sc = 0
    · refine ⟨by simp [h0], fun k => ?_, fun k => ?_⟩ <;> by_cases h : k = sc <;> simp [h, hp, h0]
    · rw [if_pos h0, if_neg (not_not.2 hp), if_neg h0]
      exact ⟨rfl, fun k => by by_cases h : k = sc <;> simp [h, hp], fun k => by simp⟩
  · cases p <;> simp only [Bool.not_eq_false, Bool.not_eq_true, eq_comm (a := false), eq_comm (a := true)] at hp
    · simp only [hp]
      exact ⟨rfl, fun k => by simp, fun k => by by_cases h : k = sc <;> simp [h]⟩
    · simp only [hp]
      exact ⟨rfl, fun k => by simp, fun k => by by_cases h : k = sc <;> simp [h]⟩

@[simp] theorem update_keyAt (sc : Scancode) (p : Bool) (s : State) (k : Scancode) :
    (update sc p s).keyAt k = if k = sc then p else s.keyAt k := (update_eq sc p s).2.1 k

@[simp] theorem update_steadyAt (sc : Scancode) (p : Bool) (s : State) (k : Scancode) :
    (update sc p s).steadyAt k = if k = sc then countedTo p (s.keyAt sc) (s.steadyAt sc) else s.steadyAt k :=
  (update_eq sc p s).2.2 k

/-- An update leaves all but the banks alone. -/
theorem update_rest (sc : Scancode) (p : Bool) (s : State) :
    { update sc p s with keyState := s.keyState, steady := s.steady } = s := by
  rw [(update_eq sc p s).1]

/-- A check pushes the event of the slot's candidate and idles the counter, or changes nothing. -/
theorem confirm_cases (P : Config.Params) (sc : Scancode) (s : State) :
    (P.steadyThresh.val < (s.steadyAt sc).toNat ∧
      confirm P sc s = (push (eventByte (!s.keyAt sc) sc) s).setSteady sc 0) ∨
    ((s.steadyAt sc).toNat ≤ P.steadyThresh.val ∧ confirm P sc s = s) := by
  by_cases h : P.steadyThresh.val < (s.steadyAt sc).toNat
  · exact .inl ⟨h, by simp [confirm, State.pastThreshold, h]⟩
  · exact .inr ⟨Nat.le_of_not_lt h, by simp [confirm, State.pastThreshold, h]⟩

/-! ### The scanned set -/

theorem mem_validScancodes (sc : Scancode) : sc ∈ validScancodes ↔ isValid sc = true := by
  simp only [validScancodes, List.mem_filter, List.mem_map, List.mem_range, and_iff_right_iff_imp]
  intro _
  exact ⟨sc.toNat, sc.isLt, by simp⟩

theorem nodup_validScancodes : validScancodes.Nodup := by decide +kernel

/-- The caps-lock scancode exists, whatever the device (D2). -/
theorem isValid_capsSc (P : Config.Params) : isValid (capsSc P) = true := by
  have h : ∀ i : Fin Config.VALID_COUNT, isValid (validScancodes.getD i.val 0) = true := by decide +kernel
  exact h P.capsIndex

end Sys2Proof.Machine
end

