-- ==== Sys2Proof/Laws/Blocks.lean ====
section
/-! SUPPORT. What each block of the consumer, each command and each step can do, said once. -/

namespace Sys2Proof.Machine

/-! ### typematic_engine -/

/-- A tick does nothing to an idle engine, counts a running one down, and fires one that has a single tick left (R117). -/
theorem typematicTick_cases (s : State) :
    (s.countdown = 0 ∧ typematicTick s = s) ∨
    (s.countdown = 1 ∧ typematicTick s = { s with tx := s.tx ++ [s.lastByte], countdown := s.rateTicks }) ∨
    (1 < s.countdown.toNat ∧ typematicTick s = { s with countdown := s.countdown - 1 }) := by
  by_cases h0 : s.countdown = 0
  · exact .inl ⟨h0, by simp [typematicTick, State.counting, h0]⟩
  · by_cases h1 : s.countdown = 1
    · refine .inr (.inl ⟨h1, ?_⟩)
      simp [typematicTick, State.counting, h1, typematicFire]
      rfl
    · refine .inr (.inr ⟨by bv_omega, ?_⟩)
      have h2 : s.countdown - 1 ≠ 0 := by bv_omega
      simp only [typematicTick, State.counting, State.setCountdown_countdown, bne_iff_ne, ne_eq, h0, h2, not_false_eq_true, if_true]
      rfl

/-- An eligible event arms the engine, any other idles it; nothing else changes (R116). -/
theorem typematicOnEvent_cases (P : Config.Params) (ev : Byte) (s : State) :
    (repeatEligible P ev = true ∧ typematicOnEvent P ev s = { s with countdown := s.delayTicks, lastByte := ev }) ∨
    (repeatEligible P ev = false ∧ typematicOnEvent P ev s = { s with countdown := 0 }) := by
  cases h : repeatEligible P ev
  · exact .inr ⟨rfl, by simp [typematicOnEvent, h]; rfl⟩
  · exact .inl ⟨rfl, by simp [typematicOnEvent, h]; rfl⟩

/-! ### caps-lock latch -/

/-- The four cases of the latch (R131 to R134), exhaustive and exclusive (R136). -/
theorem capsLatch_cases (P : Config.Params) (ev : Byte) (s : State) :
    (isCaps P ev = true ∧ evIsUp ev = true ∧ capsLatch P ev s = s) ∨
    (isCaps P ev = true ∧ evIsUp ev = false ∧
      capsLatch P ev s =
        { s with tx := s.tx ++ [eventByte s.capsState (capsSc P)], ledCaps := !s.capsState, capsState := !s.capsState }) ∨
    (isCaps P ev = false ∧ capsLatch P ev s = { s with tx := s.tx ++ [ev] }) := by
  cases h : isCaps P ev
  · exact .inr (.inr ⟨rfl, by simp [capsLatch, h]; rfl⟩)
  · cases h2 : evIsUp ev
    · refine .inr (.inl ⟨rfl, rfl, ?_⟩)
      cases h3 : s.capsState <;> simp [capsLatch, h, h2, h3] <;> rfl
    · exact .inl ⟨rfl, rfl, by simp [capsLatch, h, h2]⟩

/-! ### commands -/

@[simp] theorem exec_redLedOff (s : State) : exec .redLedOff s = .next (s.setLedRed false) := rfl
@[simp] theorem exec_redLedOn (s : State) : exec .redLedOn s = .next (s.setLedRed true) := rfl
@[simp] theorem exec_greenLedOff (s : State) : exec .greenLedOff s = .next (s.setLedGreen false) := rfl
@[simp] theorem exec_greenLedOn (s : State) : exec .greenLedOn s = .next (s.setLedGreen true) := rfl
@[simp] theorem exec_blueLedOff (s : State) : exec .blueLedOff s = .next (s.setLedBlue false) := rfl
@[simp] theorem exec_blueLedOn (s : State) : exec .blueLedOn s = .next (s.setLedBlue true) := rfl
@[simp] theorem exec_init (s : State) : exec .init s =
    .next { State.reset with
      qMem := s.qMem, tx := s.tx, pending := s.pending, envIndex := s.envIndex, epoch := s.epoch } := rfl
@[simp] theorem exec_setDelay (v : Value) (s : State) : exec (.setDelay v) s = .next (s.setDelayTicks (scaledTicks v)) := rfl
@[simp] theorem exec_setRate (v : Value) (s : State) : exec (.setRate v) s = .next (s.setRateTicks (scaledTicks v)) := rfl
@[simp] theorem exec_reservedType (v : Value) (s : State) : exec (.reservedType v) s = .next s := rfl
@[simp] theorem exec_unrecognised07 (s : State) : exec .unrecognised07 s = .next s := rfl
@[simp] theorem exec_unrecognised08 (v : Value) (s : State) : exec (.unrecognised08 v) s = .next s := rfl
@[simp] theorem exec_unrecognised10 (v : Value) (s : State) : exec (.unrecognised10 v) s = .next s := rfl
@[simp] theorem exec_unrecognised20 (v : Value) (s : State) : exec (.unrecognised20 v) s = .next s := rfl

/-! ### steps -/

/-- The pop of a loop tick: nothing from an empty queue, else the byte at `q_rd` is taken off and processed (R103, R162, R163). -/
theorem popAndProcess_cases (P : Config.Params) (s : State) :
    (s.qWr = s.qRd ∧ popAndProcess P s = s) ∨
    (s.qWr ≠ s.qRd ∧ popAndProcess P s = processEvent P (s.ringRead s.qRd) (s.setQRd (advance s.qRd))) := by
  unfold popAndProcess
  rcases pop_cases s with ⟨h, hp⟩ | ⟨h, hp⟩ <;> rw [hp]
  · exact .inl ⟨h, rfl⟩
  · exact .inr ⟨h, rfl⟩

theorem takeStimulus_cons {s : State} {ev : Stimulus} {rest : List Stimulus} (h : s.pending = ev :: rest) :
    s.takeStimulus = (ev, { s with pending := rest }) := by
  simp [State.takeStimulus, h]

theorem takeStimulus_nil {s : State} (h : s.pending = []) :
    s.takeStimulus = (Config.environment s.envIndex, { s with envIndex := s.envIndex + 1 }) := by
  simp [State.takeStimulus, h]

/-- Taking a stimulus changes the model's own bookkeeping and nothing of the hardware. -/
theorem takeStimulus_rest (s : State) :
    { s.takeStimulus.2 with pending := s.pending, envIndex := s.envIndex } = s := by
  cases h : s.pending with
  | nil => rw [takeStimulus_nil h, ← h]
  | cons ev rest => rw [takeStimulus_cons h, ← h]

end Sys2Proof.Machine
end

