-- ==== Sys2Proof/Laws/PerInstr.lean ====
section
/-! SUPPORT. One lemma per command: its byte lies in its row of spec/opcode_table.json. -/

namespace Sys2Proof.Laws.MatchesTableRow

/-- The `match` and `mask` of each command's row of spec/opcode_table.json. -/
def row : Instr → Byte × Byte
  | .redLedOff => (0x00, 0xFF)
  | .redLedOn => (0x01, 0xFF)
  | .greenLedOff => (0x02, 0xFF)
  | .greenLedOn => (0x03, 0xFF)
  | .blueLedOff => (0x04, 0xFF)
  | .blueLedOn => (0x05, 0xFF)
  | .init => (0x06, 0xFF)
  | .setDelay _ => (0x40, 0xC0)
  | .setRate _ => (0x80, 0xC0)
  | .reservedType _ => (0xC0, 0xC0)
  | .unrecognised07 => (0x07, 0xFF)
  | .unrecognised08 _ => (0x08, 0xF8)
  | .unrecognised10 _ => (0x10, 0xF0)
  | .unrecognised20 _ => (0x20, 0xE0)

/-- The byte of a well-formed command agrees with its row's `match` on the bits of its `mask`. -/
def Statement (i : Instr) : Prop := i.wf = true → encodeByte i &&& (row i).2 = (row i).1

theorem redLedOff : Statement .redLedOff := fun _ => rfl
theorem redLedOn : Statement .redLedOn := fun _ => rfl
theorem greenLedOff : Statement .greenLedOff := fun _ => rfl
theorem greenLedOn : Statement .greenLedOn := fun _ => rfl
theorem blueLedOff : Statement .blueLedOff := fun _ => rfl
theorem blueLedOn : Statement .blueLedOn := fun _ => rfl
theorem init : Statement .init := fun _ => rfl

theorem setDelay (v : Value) : Statement (.setDelay v) := by
  unfold Statement; revert v; decide +kernel

theorem setRate (v : Value) : Statement (.setRate v) := by
  unfold Statement; revert v; decide +kernel

theorem reservedType (v : Value) : Statement (.reservedType v) := by
  unfold Statement; revert v; decide +kernel

theorem unrecognised07 : Statement .unrecognised07 := fun _ => rfl

theorem unrecognised08 (v : Value) : Statement (.unrecognised08 v) := by
  unfold Statement; revert v; decide +kernel

theorem unrecognised10 (v : Value) : Statement (.unrecognised10 v) := by
  unfold Statement; revert v; decide +kernel

theorem unrecognised20 (v : Value) : Statement (.unrecognised20 v) := by
  unfold Statement; revert v; decide +kernel

end Sys2Proof.Laws.MatchesTableRow
end

