-- ==== Sys2Proof/Tests/Slice0.lean ====
section
/-! SUPPORT. The model's own tests: expected values come from spec/95_test_vectors.md and the examples of the rules;
and, for every statement with hypotheses, a state and operands that meet them. -/

namespace Sys2Proof.Tests

open Sys2Proof.Machine

/-! ### Helpers -/

/-- The example device of spec/95_test_vectors.md: `STEADY_THRESH` = 3, `CAPS_SC` = 0x50. -/
def dev : Config.Params := { steadyThresh := 3, capsIndex := 75 }

/-- The same with `CAPS_SC` = 0x21, outside the meta row. -/
def dev21 : Config.Params := { steadyThresh := 3, capsIndex := 31 }

/-- The device without debouncing, `STEADY_THRESH` = 0. -/
def dev0 : Config.Params := { steadyThresh := 0, capsIndex := 75 }

/-- The state a step answers, or the one it was given. -/
def after (s : State) : Host.Outcome State Fault Refusal → State
  | .next t => t
  | .fault _ => s
  | .refused _ => s

/-- A queue that holds one byte, at slot 2. -/
def queued (e : Byte) : State := { State.reset with qMem := [(2, e)], qRd := 2, qWr := 3 }

/-- An engine that counts, its latch on 0x23, with a rate of 12. -/
def counting (n : Byte) : State := { State.reset with countdown := n, lastByte := 0x23, rateTicks := 12 }

/-- Slot 0x12 with this candidate and counter. -/
def slot12 (k : Bool) (n : Byte) : State := (State.reset.setKey 0x12 k).setSteady 0x12 n

/-- Raw levels with only key 0x12 pressed. -/
def press12 : BitVec 128 := 1#128 <<< 0x12

/-- Levels of a concrete list of scans, checked one by one. -/
theorem reads_of_all {sc : Scancode} {p : Bool} {raws : List (BitVec 128)}
    (h : raws.all (fun raw => raw.getLsbD sc.toNat == p) = true) : readsAs sc p raws :=
  fun raw hr => eq_of_beq (List.all_eq_true.mp h raw hr)

/-! ### Well-formedness: each check refuses a term -/

theorem test_wf_refuses_unrecognised08_below : (Instr.unrecognised08 7).wf = false := by decide
theorem test_wf_refuses_unrecognised08_above : (Instr.unrecognised08 16).wf = false := by decide
theorem test_wf_refuses_unrecognised10_below : (Instr.unrecognised10 15).wf = false := by decide
theorem test_wf_refuses_unrecognised10_above : (Instr.unrecognised10 32).wf = false := by decide
theorem test_wf_refuses_unrecognised20_below : (Instr.unrecognised20 31).wf = false := by decide
theorem test_wf_accepts_the_bounds : (Instr.unrecognised08 8).wf ∧ (Instr.unrecognised08 15).wf
    ∧ (Instr.unrecognised10 16).wf ∧ (Instr.unrecognised10 31).wf ∧ (Instr.unrecognised20 32).wf
    ∧ (Instr.unrecognised20 63).wf := by decide

/-! ### Decoding: each constructor's byte, written out from the patterns of R64 -/

theorem test_decode_redLedOff : decode [0b00000000] = .ok (.redLedOff, []) := rfl
theorem test_decode_redLedOn : decode [0b00000001] = .ok (.redLedOn, []) := rfl
theorem test_decode_greenLedOff : decode [0b00000010] = .ok (.greenLedOff, []) := rfl
theorem test_decode_greenLedOn : decode [0b00000011] = .ok (.greenLedOn, []) := rfl
theorem test_decode_blueLedOff : decode [0b00000100] = .ok (.blueLedOff, []) := rfl
theorem test_decode_blueLedOn : decode [0b00000101] = .ok (.blueLedOn, []) := rfl
theorem test_decode_init : decode [0b00000110] = .ok (.init, []) := rfl
theorem test_decode_setDelay : decode [0b01000101] = .ok (.setDelay 5, []) := rfl
theorem test_decode_setRate : decode [0b10000011] = .ok (.setRate 3, []) := rfl
theorem test_decode_reservedType : decode [0b11111111] = .ok (.reservedType 63, []) := rfl
theorem test_decode_unrecognised07 : decode [0b00000111] = .ok (.unrecognised07, []) := rfl
theorem test_decode_unrecognised08 : decode [0b00001111] = .ok (.unrecognised08 15, []) := rfl
theorem test_decode_unrecognised10 : decode [0b00010000] = .ok (.unrecognised10 16, []) := rfl
theorem test_decode_unrecognised20 : decode [0b00111111] = .ok (.unrecognised20 63, []) := rfl
theorem test_decode_keeps_the_rest : decode [0x45, 0x83] = .ok (.setDelay 5, [0x83]) := rfl
theorem test_decode_rejects_no_byte : decode [] = .error .noByte := rfl
theorem test_decode_table_word : decodeTableWord 8 0x83 = some (.setRate 3) := by decide

/-! ### Scancodes and event bytes (vectors E1 to E6) -/

theorem test_event_byte : eventByte false 0x12 = 0x12 ∧ eventByte true 0x12 = 0x92 ∧ eventByte true 0x56 = 0xD6 := by decide
theorem test_event_fields : evIsUp 0xA3 = true ∧ scRow (evScancode 0xA3) = 2 ∧ scBank (evScancode 0xA3) = false
    ∧ scCol (evScancode 0xA3) = 3 := by decide
theorem test_valid : ([0x00, 0x07, 0x08, 0x0E, 0x47, 0x4E, 0x50, 0x56] : List Scancode).all isValid = true
    ∧ ([0x0F, 0x4F, 0x57, 0x58, 0x5F, 0x60, 0x7F] : List Scancode).any isValid = false := by decide
theorem test_caps_scancode : capsSc dev = 0x50 ∧ capsSc dev21 = 0x21 := by decide +kernel

/-! ### Commands (vectors CM1 to CM9, S1 to S3) -/

theorem test_redLedOff : (after State.reset (exec .redLedOff { State.reset with ledRed := true })).ledRed = false := rfl
theorem test_redLedOn : (after State.reset (exec .redLedOn State.reset)).ledRed = true := rfl
theorem test_greenLedOff : (after State.reset (exec .greenLedOff { State.reset with ledGreen := true })).ledGreen = false := rfl
theorem test_greenLedOn : (after State.reset (exec .greenLedOn State.reset)).ledGreen = true := rfl
theorem test_blueLedOff : (after State.reset (exec .blueLedOff { State.reset with ledBlue := true })).ledBlue = false := rfl
theorem test_blueLedOn : (after State.reset (exec .blueLedOn State.reset)).ledBlue = true := rfl
theorem test_init_clears : (after State.reset (exec .init { queued 0x24 with delayTicks := 20, capsState := true })).delayTicks = 252
    ∧ (after State.reset (exec .init { queued 0x24 with delayTicks := 20, capsState := true })).capsState = false := ⟨rfl, rfl⟩
theorem test_init_empties_the_queue : (after State.reset (exec .init (queued 0x24))).qRd = 0
    ∧ (after State.reset (exec .init (queued 0x24))).qMem = [(2, 0x24)] := ⟨rfl, rfl⟩
theorem test_setDelay : (after State.reset (exec (.setDelay 5) State.reset)).delayTicks = 20 := by decide
theorem test_setDelay_keeps_countdown : (after State.reset (exec (.setDelay 1) (counting 7))).countdown = 7 := rfl
theorem test_setRate : (after State.reset (exec (.setRate 3) State.reset)).rateTicks = 12 := by decide
theorem test_reservedType : exec (decodeByte 0xFF) (counting 7) = .next (counting 7) := rfl
theorem test_unrecognised07 : exec (decodeByte 0x07) (counting 7) = .next (counting 7) := rfl
theorem test_unrecognised20 : exec (decodeByte 0x3F) (counting 7) = .next (counting 7) := rfl

/-! ### Queue (vectors Q3, Q6, Q7, and the example of R103) -/

theorem test_push_wraps : (push 0x92 { State.reset with qRd := 15, qWr := 15 }).qWr = 0
    ∧ (push 0x92 { State.reset with qRd := 15, qWr := 15 }).qMem = [(15, 0x92)] := ⟨rfl, rfl⟩
theorem test_pop : (pop (queued 0x23)).1 = some 0x23 ∧ (pop (queued 0x23)).2.qRd = 3 := by decide
theorem test_pop_empty : (pop State.reset).1 = none := by decide
theorem test_overflow_reads_empty : (push 0x90 { State.reset with qWr := 15 }).occupancy = 0 := by decide
theorem test_occupancy_wraps : ({ State.reset with qRd := 15, qWr := 0 } : State).occupancy = 1 := by decide
theorem test_write_keeps_order : Memory.write 1 7 [(0, 5), (2, 6)] = [(0, 5), (1, 7), (2, 6)]
    ∧ Memory.write 2 7 [(0, 5), (2, 6)] = [(0, 5), (2, 7)] ∧ Memory.wf [(0, 5), (1, 7), (2, 6)] = true := by decide

/-! ### Debounce (rows of DB1, DB2, DB3, DB5; one visit each) -/

theorem test_visit_raw_edge : (visit dev press12 State.reset 0x12).keyAt 0x12 = true
    ∧ (visit dev press12 State.reset 0x12).steadyAt 0x12 = 1 := by decide
theorem test_visit_confirms : (visit dev press12 (slot12 true 3) 0x12).steadyAt 0x12 = 0
    ∧ (visit dev press12 (slot12 true 3) 0x12).qMem = [(0, 0x12)] := by decide
theorem test_visit_release_reverts : (visit dev 0 (slot12 true 3) 0x12).steadyAt 0x12 = 1
    ∧ (visit dev 0 (slot12 true 3) 0x12).qMem = [] := by decide
theorem test_visit_confirms_up : (visit dev 0 (slot12 false 3) 0x12).qMem = [(0, 0x92)] := by decide
theorem test_scan_without_debounce : (scanTick dev0 press12 State.reset).qMem = [(0, 0x12)] := by decide +kernel
theorem test_scan_order : (scanTick dev0 (press12 ||| (1#128 <<< 0x07) ||| (1#128 <<< 0x57)) State.reset).qMem
    = [(0, 0x07), (1, 0x12)] := by decide +kernel

/-! ### Typematic engine (T1 to T9) -/

theorem test_arm : (typematicOnEvent dev 0x23 State.reset).countdown = 252
    ∧ (typematicOnEvent dev 0x23 State.reset).lastByte = 0x23 := by decide +kernel
theorem test_up_event_stops : (typematicOnEvent dev 0xA3 (counting 252)).countdown = 0
    ∧ (typematicOnEvent dev 0xA3 (counting 252)).lastByte = 0x23 := by decide +kernel
theorem test_meta_event_stops : (typematicOnEvent dev21 0x52 (counting 252)).countdown = 0 := by decide +kernel
theorem test_caps_event_stops : (typematicOnEvent dev21 0x21 (counting 252)).countdown = 0 := by decide +kernel
theorem test_tick_counts : (typematicTick (counting 5)).countdown = 4 ∧ (typematicTick (counting 5)).tx = [] := by decide
theorem test_tick_fires : (typematicTick (counting 1)).countdown = 12 ∧ (typematicTick (counting 1)).tx = [0x23] := by decide

/-! ### Caps-lock latch (CL1 to CL4) -/

theorem test_caps_on : (processEvent dev 0x50 State.reset).tx = [0x50]
    ∧ (processEvent dev 0x50 State.reset).ledCaps = true := by decide +kernel
theorem test_caps_off : (processEvent dev 0x50 { State.reset with capsState := true, ledCaps := true }).tx = [0xD0] := by decide +kernel
theorem test_caps_up_consumed : (processEvent dev 0xD0 { State.reset with capsState := true }).tx = []
    ∧ (processEvent dev 0xD0 { State.reset with capsState := true }).capsState = true := by decide +kernel
theorem test_other_event_passes : (processEvent dev 0x51 State.reset).tx = [0x51]
    ∧ (processEvent dev 0x51 State.reset).countdown = 0 := by decide +kernel

/-! ### Loop ticks (LT1, LT2, CM7) and steps -/

theorem test_repeat_before_event : (loopFront dev { counting 1 with qMem := [(2, 0xA3)], qRd := 2, qWr := 3 }).tx = [0x23, 0xA3] := by
  decide +kernel
theorem test_arms_with_old_delay : (after State.reset (loopTick dev (some 0x45) (queued 0x23))).countdown = 252
    ∧ (after State.reset (loopTick dev (some 0x45) (queued 0x23))).delayTicks = 20 := by decide +kernel
theorem test_event_taken_once : (after State.reset (loopTick dev (some 0x45) (queued 0xA3))).qRd = 3
    ∧ (after State.reset (loopTick dev (some 0x45) (queued 0xA3))).countdown = 0 := by decide +kernel
theorem test_init_after_event : (after State.reset (loopTick dev21 (some 0x06) (queued 0x24))).tx = [0x24]
    ∧ (after State.reset (loopTick dev21 (some 0x06) (queued 0x24))).countdown = 0 := by decide +kernel
theorem test_step_runs_a_placed_command : step (State.reset.withFetchWord 8 0x45) = exec (.setDelay 5) State.reset := rfl
theorem test_step_takes_a_reset : (after State.reset (step { counting 7 with pending := [.reset] })).countdown = 0 := rfl

/-! ### Hypotheses of the statements, met -/

theorem witness_indicator_already_off : State.reset.ledRed = false ∧ State.reset.ledGreen = false ∧ State.reset.ledBlue = false := by decide
theorem witness_indicator_already_on : ({ State.reset with ledRed := true, ledGreen := true, ledBlue := true } : State).ledRed = true
    ∧ ({ State.reset with ledRed := true, ledGreen := true, ledBlue := true } : State).ledGreen = true
    ∧ ({ State.reset with ledRed := true, ledGreen := true, ledBlue := true } : State).ledBlue = true := by decide
theorem witness_setDelay_bounds : exec (.setDelay 0) State.reset = .next { State.reset with delayTicks := 0 }
    ∧ exec (.setDelay 63) (counting 1) = .next { counting 1 with delayTicks := 252 } := ⟨rfl, rfl⟩
theorem witness_setRate_bounds : exec (.setRate 0) (counting 1) = .next { counting 1 with rateTicks := 0 }
    ∧ ({ counting 1 with rateTicks := 0 } : State).countdown = 1
    ∧ exec (.setRate 25) State.reset = .next { State.reset with rateTicks := 100 } := ⟨rfl, rfl, rfl⟩
theorem witness_ignored_bytes : commandType 0xC0 = 0b11 ∧ commandType 0xFF = 0b11
    ∧ (commandType 0x07 = 0b00 ∧ 7 ≤ (commandValue 0x07).toNat)
    ∧ (commandType 0x3F = 0b00 ∧ 7 ≤ (commandValue 0x3F).toNat) := by decide
theorem witness_command_frame : Instr.redLedOn ≠ .init ∧ exec .redLedOn (queued 0x24) = .next { queued 0x24 with ledRed := true } :=
  ⟨by decide, rfl⟩
theorem witness_apart : Writes.disjoint (Writes.of .redLedOn) (Writes.of (.setDelay 5)) = true
    ∧ Writes.disjoint (Writes.of .init) (Writes.of .unrecognised07) = true := by decide
theorem witness_pop : State.reset.qWr = State.reset.qRd ∧ (queued 0x24).qWr ≠ (queued 0x24).qRd := by decide
theorem witness_occupancy : ({ State.reset with qRd := 4, qWr := 4 } : State).qRd ≤ ({ State.reset with qRd := 4, qWr := 4 } : State).qWr
    ∧ ({ State.reset with qRd := 4, qWr := 3 } : State).qWr < ({ State.reset with qRd := 4, qWr := 3 } : State).qRd := by decide
theorem witness_fifo : neverOverflows [.push 0x10, .pop] { State.reset with qWr := 14 } := ⟨by decide, trivial⟩
theorem witness_popped : State.reset.qWr = State.reset.qRd ∧ (0x10 : Byte) ∈ poppedBy [.pop, .push 0x10, .pop] State.reset := by
  decide
theorem witness_update : (slot12 true 2).keyAt 0x12 ≠ false ∧ (slot12 true 2).keyAt 0x12 = true ∧ (0x13 : Scancode) ≠ 0x12 := by decide
theorem witness_confirm : ((slot12 true 3).steadyAt 0x12).toNat ≤ dev.steadyThresh.val
    ∧ dev.steadyThresh.val < ((slot12 true 4).steadyAt 0x12).toNat := by decide
theorem witness_scanned_and_unscanned : isValid 0x12 = true ∧ isValid 0x0F = false := by decide
theorem witness_equal_levels_on_valid :
    ∀ sc : Scancode, isValid sc = true → press12.getLsbD sc.toNat = (press12 ||| (1#128 <<< 0x0F)).getLsbD sc.toNat := by
  decide +kernel
theorem witness_transition : isValid 0x12 = true ∧ State.reset.keyAt 0x12 ≠ true
    ∧ readsAs 0x12 true [press12, press12, press12] ∧ [press12, press12, press12].length ≤ dev.steadyThresh.val
    ∧ readsAs 0x12 (!true) [0]
    ∧ readsAs 0x12 true [press12, press12, press12, press12]
    ∧ [press12, press12, press12, press12].length = dev.steadyThresh.val + 1 + 0 :=
  ⟨by decide, by decide, reads_of_all (by decide), by decide, reads_of_all (by decide), reads_of_all (by decide), by decide⟩
theorem witness_pulse : State.reset.keyAt 0x12 = false ∧ State.reset.steadyAt 0x12 = 0 ∧ readsAs 0x12 (!false) [press12]
    ∧ 1 ≤ [press12].length ∧ [press12].length ≤ dev.steadyThresh.val
    ∧ readsAs 0x12 false [0, 0, 0, 0] ∧ [(0 : BitVec 128), 0, 0, 0].length = dev.steadyThresh.val + 1 :=
  ⟨by decide, by decide, reads_of_all (by decide), by decide, by decide, reads_of_all (by decide), by decide⟩
theorem witness_bounce : noLevelLasts 0x12 dev.steadyThresh.val [press12, 0]
    ∧ (∀ raw ∈ [press12, 0].getLast?, raw.getLsbD (0x12 : Scancode).toNat ≠ true)
    ∧ readsAs 0x12 true [press12, press12, press12, press12] := by
  refine ⟨fun before held post h pressed _ => ?_, fun raw hr => ?_, reads_of_all (by decide)⟩
  · have hl := congrArg List.length h
    simp only [List.length_append, List.length_cons, List.length_nil] at hl
    have h3 : dev.steadyThresh.val = 3 := rfl
    omega
  · obtain rfl : (0 : BitVec 128) = raw := Option.some.inj hr
    decide
theorem witness_after_init : isValid 0x12 = true ∧ exec .init State.reset = .next State.reset
    ∧ readsAs 0x12 true [press12, press12, press12, press12] ∧ readsAs 0x12 false [0] :=
  ⟨by decide, rfl, reads_of_all (by decide), reads_of_all (by decide)⟩
theorem witness_cleared_banks : (∀ sc : Scancode, State.reset.clearBanks.keyAt sc = false ∧ State.reset.clearBanks.steadyAt sc = 0)
    ∧ [press12, press12, press12].length ≤ dev.steadyThresh.val := by
  refine ⟨fun sc => ⟨by simp, by simp⟩, by decide⟩
theorem witness_eligible : repeatEligible dev 0x23 = true ∧ repeatEligible dev 0x50 = false := by decide +kernel
theorem witness_cadence_idle : State.reset.qWr = State.reset.qRd ∧ State.reset.countdown = 0
    ∧ ({ State.reset with pending := [.loopTick none] } : State).pending = List.replicate 1 (.loopTick none) ++ [] := by decide
theorem witness_cadence_before : ({ counting 2 with pending := [.loopTick none] } : State).pending
      = List.replicate 1 (.loopTick none) ++ [] ∧ 1 < (counting 2).countdown.toNat := by decide
theorem witness_cadence_repeats : ({ counting 1 with pending := [.loopTick none] } : State).pending
      = List.replicate 1 (.loopTick none) ++ [] ∧ (counting 1).countdown ≠ 0 ∧ (counting 1).countdown.toNat ≤ 1
      ∧ (counting 1).rateTicks ≠ 0 := by decide
theorem witness_cadence_single : ({ counting 1 with rateTicks := 0, pending := [.loopTick none] } : State).pending
      = List.replicate 1 (.loopTick none) ++ [] ∧ ({ counting 1 with rateTicks := 0 } : State).rateTicks = 0 := by decide
theorem witness_tick : (counting 0).countdown = 0 ∧ (counting 1).countdown = 1 ∧ 2 ≤ (counting 2).countdown.toNat := by decide
theorem witness_latch : (0x50 : Byte).toNat = (capsSc dev).toNat ∧ State.reset.capsState = false
    ∧ ({ State.reset with capsState := true } : State).capsState = true
    ∧ (0xD0 : Byte).toNat = 0x80 + (capsSc dev).toNat ∧ (0x51 : Byte).toNat % 0x80 ≠ (capsSc dev).toNat := by decide +kernel
theorem witness_caps_shown : State.reset.ledCaps = State.reset.capsState := rfl
theorem witness_event_and_command : (queued 0x23).qWr ≠ (queued 0x23).qRd
    ∧ repeatEligible dev ((queued 0x23).ringRead (queued 0x23).qRd) = true
    ∧ isCaps dev ((queued 0x23).ringRead (queued 0x23).qRd) = false := by decide +kernel
theorem witness_idle : State.reset.qWr = State.reset.qRd ∧ State.reset.countdown = 0
    ∧ ∀ sc : Scancode, (0 : BitVec 128).getLsbD sc.toNat = false ∧ State.reset.clearBanks.keyAt sc = false
      ∧ State.reset.clearBanks.steadyAt sc = 0 :=
  ⟨rfl, rfl, fun sc => ⟨by simp, by simp, by simp⟩⟩
theorem witness_room_for_the_scan : (some (0x45 : Byte)).map decodeByte ≠ some .init ∧ (queued 0x23).qWr ≠ (queued 0x23).qRd
    ∧ (queued 0x23).occupancy + (scanEvents dev0 press12 (queued 0x23)).length ≤ 15 := by decide +kernel
theorem witness_loop_tick : (none : Option Byte) ≠ some 0x06 ∧ loopTick dev none (counting 5) = .next (counting 4) :=
  ⟨by decide, rfl⟩
theorem witness_placed_command : (State.reset.withFetchWord 8 0x45).pending = .loopTick (some 0x45) :: []
    ∧ decode [0x45] = .ok (.setDelay 5, []) := ⟨by decide, rfl⟩
theorem witness_stimuli : ({ State.reset with pending := [.reset] } : State).pending = .reset :: [] ∧ State.reset.pending = [] := ⟨rfl, rfl⟩
theorem witness_placed_scan_and_reset :
    ({ State.reset with pending := [.scanTick press12] } : State).pending = .scanTick press12 :: []
    ∧ ({ counting 7 with pending := [.reset, .loopTick none] } : State).pending = .reset :: [.loopTick none] := ⟨rfl, rfl⟩
theorem witness_stopping_events : (0xA3 : Byte).getLsbD 7 = true ∧ (0x52 : Byte).extractLsb' 4 3 = 5
    ∧ (0x21 : Byte).extractLsb' 0 7 = capsSc dev21 ∧ (0xA1 : Byte).extractLsb' 0 7 = capsSc dev21
    ∧ repeatEligible dev21 0x23 = true := by decide +kernel
theorem witness_loop_tick_event : (none : Option Byte) ≠ some 0x06 ∧ (some (0x45 : Byte)) ≠ some 0x06
    ∧ (queued 0x23).qWr ≠ (queued 0x23).qRd ∧ repeatEligible dev ((queued 0x23).ringRead (queued 0x23).qRd) = true
    ∧ repeatEligible dev ((queued 0xA3).ringRead (queued 0xA3).qRd) = false ∧ State.reset.qWr = State.reset.qRd := by decide +kernel
theorem witness_loop_tick_latch : (queued 0x50).qWr ≠ (queued 0x50).qRd
    ∧ ((queued 0x50).ringRead (queued 0x50).qRd).toNat = (capsSc dev).toNat
    ∧ ((queued 0xD0).ringRead (queued 0xD0).qRd).toNat ≠ (capsSc dev).toNat := by decide +kernel
theorem witness_stopping_event_queued :
    ({ queued 0xA3 with pending := [.loopTick none, .loopTick none] } : State).pending
      = .loopTick none :: (List.replicate 1 (.loopTick none) ++ [])
    ∧ ({ queued 0xA3 with pending := [.loopTick none, .loopTick none] } : State).occupancy = 1
    ∧ repeatEligible Config.device ((queued 0xA3).ringRead (queued 0xA3).qRd) = false := ⟨rfl, by decide, rfl⟩
theorem witness_invariant : Inv Config.device { State.reset with ledRed := true, pending := [.loopTick (some 0x03)] }
    ∧ ∃ t, step { State.reset with ledRed := true, pending := [.loopTick (some 0x03)] } = .next t := by
  refine ⟨⟨rfl, fun sc => ?_, fun sc _ => ⟨?_, ?_⟩, by decide, by decide, by decide, fun h => absurd rfl h, rfl,
    fun k hk => absurd hk (Nat.not_lt_zero k)⟩, ⟨_, rfl⟩⟩
  · simp [State.steadyAt, State.reset]
  · simp [State.steadyAt, State.reset]
  · simp [State.keyAt, State.reset]

end Sys2Proof.Tests
end

section
/-! The debounce filter bank (spec/40_debounce_filter_bank.md): what one scan does to one slot, and the two filter properties.

The idea: what a scan that reads the level `p` does to a scancode depends on one number alone, the counter that the update
of R82 leaves, `countedTo p candidate counter`. A transition starts it at 1 whatever the counter held, each further scan
counts it on, and the scan that takes it past the threshold gives the event and idles it. -/

namespace Sys2Proof.Machine

section

variable {P : Config.Params} {raw : BitVec 128} {s : State} {sc : Scancode} {p : Bool}

/-! ### The counter after an update -/

/-- A raw edge arms the counter at 1 (R82). -/
theorem countedTo_of_ne {candidate : Bool} (h : p ≠ candidate) (n : Byte) : countedTo p candidate n = 1 := if_pos h

/-- A level that matches counts an armed counter on and leaves an idle one idle (R82). -/
@[simp] theorem countedTo_self (p : Bool) (n : Byte) : countedTo p p n = if n = 0 then 0 else n + 1 :=
  if_neg (not_not.2 rfl)

/-! ### The bytes of events -/

@[simp] theorem evScancode_eventByte (up : Bool) (sc : Scancode) : evScancode (eventByte up sc) = sc := by
  simp only [evScancode, eventByte]
  exact BitVec.extractLsb'_append_eq_right

@[simp] theorem evIsUp_eventByte (up : Bool) (sc : Scancode) : evIsUp (eventByte up sc) = up := by
  simp only [evIsUp, eventByte]
  exact BitVec.getLsbD_append.trans (by simp)

@[simp] theorem evScancode_levelEvent (p : Bool) (sc : Scancode) : evScancode (levelEvent p sc) = sc :=
  evScancode_eventByte _ sc

/-- The direction of an event is read back from its byte, so the events of the two levels differ. -/
theorem levelEvent_ne_not (p : Bool) (sc : Scancode) : levelEvent p sc ≠ levelEvent (!p) sc := by
  intro h
  have hdir := congrArg evIsUp h
  simp [levelEvent] at hdir

/-! ### One visit, one scan, slot by slot -/

@[simp] theorem confirm_keyAt (k : Scancode) : (confirm P sc s).keyAt k = s.keyAt k := by
  rcases confirm_cases P sc s with ⟨_, h⟩ | ⟨_, h⟩ <;> simp [h]

/-- What the check leaves of a counter: past the threshold it idles (R83). -/
def afterCheck (P : Config.Params) (n : Byte) : Byte := if P.steadyThresh.val < n.toNat then 0 else n

@[simp] theorem confirm_steadyAt (k : Scancode) :
    (confirm P sc s).steadyAt k = if k = sc then afterCheck P (s.steadyAt sc) else s.steadyAt k := by
  rcases confirm_cases P sc s with ⟨hpast, h⟩ | ⟨hbelow, h⟩
  · simp [h, afterCheck, hpast]
  · by_cases hk : k = sc <;> simp [h, afterCheck, Nat.not_lt.2 hbelow, hk]

@[simp] theorem visit_keyAt (k : Scancode) :
    (visit P raw s sc).keyAt k = if k = sc then raw.getLsbD sc.toNat else s.keyAt k := by
  simp [visit]

@[simp] theorem visit_steadyAt (k : Scancode) :
    (visit P raw s sc).steadyAt k = if k = sc then afterCheck P (s.scanCount raw sc) else s.steadyAt k := by
  by_cases h : k = sc <;> simp [visit, h, State.scanCount]

/-- What a scan makes of a counter depends on that slot alone (R89). -/
theorem scanCount_visit_of_ne {k : Scancode} (h : k ≠ sc) : (visit P raw s sc).scanCount raw k = s.scanCount raw k := by
  simp [State.scanCount, h]

/-- Visits of any scancodes leave in each slot that is visited its own level as the candidate, and no other slot changes. -/
theorem visits_keyAt (scs : List Scancode) (k : Scancode) :
    (scs.foldl (visit P raw) s).keyAt k = if k ∈ scs then raw.getLsbD k.toNat else s.keyAt k := by
  induction scs generalizing s with
  | nil => simp
  | cons c rest ih =>
    rw [List.foldl_cons, ih]
    by_cases hrest : k ∈ rest
    · simp [hrest]
    · by_cases hc : k = c <;> simp [hrest, hc]

/-- Visits of different scancodes count each slot that is visited once, from its own content. -/
theorem visits_steadyAt {scs : List Scancode} (hnodup : scs.Nodup) (k : Scancode) :
    (scs.foldl (visit P raw) s).steadyAt k = if k ∈ scs then afterCheck P (s.scanCount raw k) else s.steadyAt k := by
  induction scs generalizing s with
  | nil => simp
  | cons c rest ih =>
    obtain ⟨hfresh, hrest⟩ := List.nodup_cons.1 hnodup
    rw [List.foldl_cons, ih hrest]
    by_cases hc : k = c
    · subst hc
      simp [hfresh]
    · simp [hc, scanCount_visit_of_ne hc]

/-- A scan makes each level of VALID the candidate of its slot, and leaves the candidates outside VALID alone (R81, R89). -/
theorem scanTick_keyAt (k : Scancode) :
    (scanTick P raw s).keyAt k = if isValid k = true then raw.getLsbD k.toNat else s.keyAt k := by
  simp only [scanTick, visits_keyAt, mem_validScancodes]

/-- A scan counts each slot of VALID from its own content, and leaves the counters outside VALID alone (R81, R89). -/
theorem scanTick_steadyAt (k : Scancode) :
    (scanTick P raw s).steadyAt k = if isValid k = true then afterCheck P (s.scanCount raw k) else s.steadyAt k := by
  simp only [scanTick, visits_steadyAt nodup_validScancodes, mem_validScancodes]

/-! ### The events of one scancode -/

/-- In a scan a scancode of VALID gives the one event of its level if the scan confirms it, and none if not:
VALID lists each scancode once. -/
theorem scanEvents_filter_scancode (hvalid : isValid sc = true) :
    (scanEvents P raw s).filter (fun ev => evScancode ev == sc)
      = if confirms P raw s sc then [levelEvent (raw.getLsbD sc.toNat) sc] else [] := by
  have hkeep : ((fun ev => evScancode ev == sc) ∘ fun k => levelEvent (raw.getLsbD k.toNat) k) = (· == sc) := by
    funext k
    simp
  have hself : validScancodes.filter (· == sc) = [sc] := by
    rw [List.filter_beq, List.count_eq_one_of_mem nodup_validScancodes ((mem_validScancodes sc).2 hvalid)]
    rfl
  rw [scanEvents, List.filter_map, hkeep, List.filter_comm, hself]
  by_cases h : confirms P raw s sc = true <;> simp [h]

theorem keyEvents_append (before after : List (BitVec 128)) :
    keyEvents P sc (before ++ after) s = keyEvents P sc before s ++ keyEvents P sc after (scans P before s) := by
  induction before generalizing s with
  | nil => rfl
  | cons raw rest ih => simp [keyEvents, ih, scans]

theorem readsAs_cons {rest : List (BitVec 128)} :
    readsAs sc p (raw :: rest) ↔ raw.getLsbD sc.toNat = p ∧ readsAs sc p rest := List.forall_mem_cons

/-- A scan that reads `p`, by the counter its update leaves: past the threshold it gives the event of `p`. -/
theorem keyEvents_cons {rest : List (BitVec 128)} (hvalid : isValid sc = true) (hraw : raw.getLsbD sc.toNat = p) :
    keyEvents P sc (raw :: rest) s
      = (if P.steadyThresh.val < (countedTo p (s.keyAt sc) (s.steadyAt sc)).toNat then [levelEvent p sc] else [])
        :: keyEvents P sc rest (scanTick P raw s) := by
  simp [keyEvents, scanEvents_filter_scancode hvalid, confirms, State.scanCount, hraw]

/-- The counter that a second scan at the same level leaves, by the counter `n` that the first one's update left. -/
theorem countedTo_scanTick (hvalid : isValid sc = true) (hraw : raw.getLsbD sc.toNat = p) {n : Byte}
    (hcount : countedTo p (s.keyAt sc) (s.steadyAt sc) = n) :
    countedTo p ((scanTick P raw s).keyAt sc) ((scanTick P raw s).steadyAt sc)
      = if P.steadyThresh.val < n.toNat ∨ n = 0 then 0 else n + 1 := by
  by_cases hpast : P.steadyThresh.val < n.toNat <;>
    simp [scanTick_keyAt, scanTick_steadyAt, hvalid, afterCheck, State.scanCount, hraw, hcount, hpast]

/-- Scans that all read `p` give no event of the scancode but that of `p` (R84). -/
theorem eq_levelEvent_of_mem_keyEvents {raws : List (BitVec 128)} (hvalid : isValid sc = true) (hreads : readsAs sc p raws)
    {evs : List Byte} (hevs : evs ∈ keyEvents P sc raws s) {ev : Byte} (hev : ev ∈ evs) : ev = levelEvent p sc := by
  induction raws generalizing s with
  | nil => simp [keyEvents] at hevs
  | cons raw rest ih =>
    obtain ⟨hraw, hrest⟩ := readsAs_cons.1 hreads
    rw [keyEvents_cons hvalid hraw, List.mem_cons] at hevs
    rcases hevs with rfl | hlater
    · split at hev
      · exact List.mem_singleton.1 hev
      · simp at hev
    · exact ih hrest hlater

/-- A counter at or below the threshold is counted on without wrapping, since the threshold is at most 254 (R85). -/
theorem toNat_add_one_of_le_threshold {n : Byte} (h : n.toNat ≤ P.steadyThresh.val) : (n + 1).toNat = n.toNat + 1 := by
  have hthresh := P.steadyThresh.isLt
  bv_omega

/-- While the level stays, an idle counter gives no event, and an armed one gives none up to the threshold. -/
theorem keyEvents_eq_replicate_nil_of_idle_or_below {raws : List (BitVec 128)} (hvalid : isValid sc = true)
    (hreads : readsAs sc p raws) {n : Byte} (hcount : countedTo p (s.keyAt sc) (s.steadyAt sc) = n)
    (hquiet : n = 0 ∨ n.toNat + raws.length ≤ P.steadyThresh.val + 1) :
    keyEvents P sc raws s = List.replicate raws.length [] := by
  induction raws generalizing s n with
  | nil => rfl
  | cons raw rest ih =>
    obtain ⟨hraw, hrest⟩ := readsAs_cons.1 hreads
    have hbelow : ¬ P.steadyThresh.val < n.toNat := by
      rcases hquiet with rfl | hsum
      · simp
      · simp only [List.length_cons] at hsum
        omega
    have hnext := countedTo_scanTick (P := P) hvalid hraw hcount
    rw [keyEvents_cons hvalid hraw, hcount, if_neg hbelow, List.length_cons, List.replicate_succ, ih hrest hnext]
    by_cases hidle : n = 0
    · exact .inl (by simp [hidle])
    · have hsum := hquiet.resolve_left hidle
      rw [List.length_cons] at hsum
      refine .inr ?_
      rw [if_neg (not_or.2 ⟨hbelow, hidle⟩), toNat_add_one_of_le_threshold (Nat.le_of_not_lt hbelow)]
      omega

/-- An armed counter that is `quiet` scans short of confirming: those scans give no event, the next one gives the event of the
level, and none follows while the level stays. -/
theorem keyEvents_of_armed {raws : List (BitVec 128)} {quiet m : Nat} (hvalid : isValid sc = true)
    (hreads : readsAs sc p raws) {n : Byte} (hcount : countedTo p (s.keyAt sc) (s.steadyAt sc) = n) (harmed : n ≠ 0)
    (hshort : n.toNat + quiet = P.steadyThresh.val + 1) (hlength : raws.length = quiet + 1 + m) :
    keyEvents P sc raws s = List.replicate quiet [] ++ [[levelEvent p sc]] ++ List.replicate m [] := by
  induction quiet generalizing s n raws with
  | zero =>
    obtain ⟨raw, rest, rfl⟩ : ∃ raw rest, raws = raw :: rest := List.exists_cons_of_length_pos (by omega)
    obtain ⟨hraw, hrest⟩ := readsAs_cons.1 hreads
    have hpast : P.steadyThresh.val < n.toNat := by omega
    have hnext := countedTo_scanTick (P := P) hvalid hraw hcount
    rw [if_pos (.inl hpast)] at hnext
    have hm : rest.length = m := by simpa [Nat.add_comm 1] using hlength
    rw [keyEvents_cons hvalid hraw, hcount, if_pos hpast,
      keyEvents_eq_replicate_nil_of_idle_or_below hvalid hrest hnext (.inl rfl), hm]
    rfl
  | succ quiet ih =>
    obtain ⟨raw, rest, rfl⟩ : ∃ raw rest, raws = raw :: rest := List.exists_cons_of_length_pos (by omega)
    obtain ⟨hraw, hrest⟩ := readsAs_cons.1 hreads
    have hbelow : ¬ P.steadyThresh.val < n.toNat := by omega
    have hnext := countedTo_scanTick (P := P) hvalid hraw hcount
    rw [if_neg (not_or.2 ⟨hbelow, harmed⟩)] at hnext
    have hsucc : (n + 1).toNat = n.toNat + 1 := toNat_add_one_of_le_threshold (Nat.le_of_not_lt hbelow)
    have harmed' : n + 1 ≠ 0 := by bv_omega
    have hlength' : rest.length = quiet + 1 + m := by
      rw [List.length_cons] at hlength
      omega
    rw [keyEvents_cons hvalid hraw, hcount, if_neg hbelow, ih hrest hnext harmed' (by omega) hlength']
    rfl

end

/-! ### The statements settled -/

/-- Settles O21: an edge and a match are the two cases of `countedTo`, and the rest is the frame of `update`. -/
theorem updateFollowsTheSampledLevel : Obligations.UpdateFollowsTheSampledLevel := by
  intro sc p s
  refine ⟨fun hedge => ?_, fun hmatch => ?_, fun k hk => ?_, update_rest sc p s⟩
  · simp [countedTo_of_ne (Ne.symm hedge)]
  · simp [hmatch]
  · simp [hk]

/-- Settles O25: the transition arms the counter at 1 whatever it held. At most `STEADY_THRESH` scans then stay below the
threshold, and scans of the reverted level give only events of that level; held longer, the counter is `STEADY_THRESH` scans
short of confirming. -/
theorem stableTransitionGivesExactlyOneEvent : Obligations.StableTransitionGivesExactlyOneEvent := by
  intro P sc p s raws hvalid hedge hreads
  have hcount : countedTo p (s.keyAt sc) (s.steadyAt sc) = 1 := countedTo_of_ne (Ne.symm hedge) _
  refine ⟨fun hshort after hafter => ?_, fun m hlength => ?_⟩
  · have hnone : keyEvents P sc raws s = List.replicate raws.length [] :=
      keyEvents_eq_replicate_nil_of_idle_or_below hvalid hreads hcount (.inr (by simp; omega))
    refine ⟨hnone, fun evs hevs hev => ?_⟩
    rw [keyEvents_append, hnone, List.mem_append] at hevs
    rcases hevs with hheld | hreverted
    · rw [List.eq_of_mem_replicate hheld] at hev
      exact List.not_mem_nil hev
    · exact levelEvent_ne_not p sc (eq_levelEvent_of_mem_keyEvents hvalid hafter hreverted hev)
  · exact keyEvents_of_armed hvalid hreads hcount (by decide) (by simp; omega) hlength

end Sys2Proof.Machine
end

section
/-! The event queue (spec/41_event_queue_fifo.md): what a push and a pop read, write and leave unchanged.

The idea: a push works on the storage and `q_wr` only and a pop on `q_rd` only, so the producer's and the consumer's ends of
the ring do not see each other; which of its two cases a pop is in is whether the cursors are equal. -/

namespace Sys2Proof.Machine

/-! ### Frames of push and pop -/

/-- A push writes the storage and `q_wr`, and no other element (R101). -/
theorem push_rest (e : Byte) (s : State) : { push e s with qMem := s.qMem, qWr := s.qWr } = s := rfl

/-- A push does not see the read cursor (R101). -/
theorem push_setQRd (e : Byte) (s : State) (c : Cursor) : push e (s.setQRd c) = (push e s).setQRd c := rfl

/-- Moving the read cursor changes no other element. -/
theorem State.setQRd_rest (s : State) (c : Cursor) : { s.setQRd c with qRd := s.qRd } = s := rfl

/-- A pop of an empty queue (R103). -/
theorem pop_of_eq {s : State} (h : s.qWr = s.qRd) : pop s = (none, s) := by
  obtain ⟨-, hpop⟩ | ⟨hne, -⟩ := pop_cases s
  · exact hpop
  · exact absurd h hne

/-- A pop of a queue that holds an entry (R103). -/
theorem pop_of_ne {s : State} (h : s.qWr ≠ s.qRd) :
    pop s = (some (s.ringRead s.qRd), s.setQRd (advance s.qRd)) := by
  obtain ⟨heq, -⟩ | ⟨-, hpop⟩ := pop_cases s
  · exact absurd heq h
  · exact hpop

/-! ### The statements settled -/

/-- Settles O14: the cursor and the slots by the laws of `push`, the rest by its frame. -/
theorem pushStoresAtTheWriteCursor : Obligations.PushStoresAtTheWriteCursor := by
  intro e s
  refine ⟨?_, push_ringRead e s, push_rest e s, push_setQRd e s⟩
  rw [push_qWr, advance_val]

/-- Settles O15: equal and different cursors are the two cases of a pop. -/
theorem popTakesTheReadSlot : Obligations.PopTakesTheReadSlot := by
  refine fun s => ⟨pop_of_eq, fun hne => ?_⟩
  rw [pop_of_ne hne]
  exact ⟨rfl, advance_val s.qRd, State.setQRd_rest s (advance s.qRd)⟩

end Sys2Proof.Machine
end

section
/-! The caps-lock latch (spec/43_caps_lock_latch.md): what it makes of a popped event.

The idea: an event byte is fixed by its direction and its scancode, so the byte's value says which of the latch's cases it is
in, and the byte that the latch sends is the event of the caps-lock scancode whose direction is the logical state. -/

namespace Sys2Proof.Machine

/-! ### The values of event bytes -/

/-- The direction is the top bit over the scancode (R61). -/
theorem toNat_eventByte (up : Bool) (sc : Scancode) : (eventByte up sc).toNat = (if up then 0x80 else 0) + sc.toNat := by
  rw [eventByte, BitVec.toNat_append, ← Nat.shiftLeft_add_eq_or_of_lt sc.isLt]
  cases up <;> rfl

/-- A byte with the value of an event is that event. -/
theorem eq_eventByte_of_toNat {ev : Byte} {up : Bool} {sc : Scancode}
    (h : ev.toNat = (if up then 0x80 else 0) + sc.toNat) : ev = eventByte up sc :=
  BitVec.eq_of_toNat_eq (h.trans (toNat_eventByte up sc).symm)

theorem eventByte_eq_ofNat (up : Bool) (sc : Scancode) :
    eventByte up sc = BitVec.ofNat 8 ((if up then 0x80 else 0) + sc.toNat) := by
  rw [← toNat_eventByte, BitVec.ofNat_toNat, BitVec.setWidth_eq]

/-- The scancode is the byte without its top bit (R61). -/
theorem toNat_evScancode (ev : Byte) : (evScancode ev).toNat = ev.toNat % 0x80 := by
  simp [evScancode, BitVec.extractLsb'_toNat]

@[simp] theorem isCaps_eventByte_capsSc (P : Config.Params) (up : Bool) : isCaps P (eventByte up (capsSc P)) = true := by
  simp [isCaps]

theorem isCaps_eq_false_iff (P : Config.Params) (ev : Byte) : isCaps P ev = false ↔ ev.toNat % 0x80 ≠ (capsSc P).toNat := by
  rw [isCaps, beq_eq_false_iff_ne, ne_eq, ← BitVec.toNat_inj, toNat_evScancode]

/-! ### The latch's cases, by the event -/

/-- A caps-lock down event sends the caps-lock event whose direction is the logical state, and toggles (R131, R132). -/
theorem capsLatch_downEvent (P : Config.Params) (s : State) :
    capsLatch P (eventByte false (capsSc P)) s
      = { s with tx := s.tx ++ [eventByte s.capsState (capsSc P)], ledCaps := !s.capsState, capsState := !s.capsState } := by
  obtain ⟨-, hup, -⟩ | ⟨-, -, hdown⟩ | ⟨hother, -⟩ := capsLatch_cases P (eventByte false (capsSc P)) s
  · simp at hup
  · exact hdown
  · simp at hother

/-- A caps-lock up event is consumed (R133). -/
theorem capsLatch_upEvent (P : Config.Params) (s : State) : capsLatch P (eventByte true (capsSc P)) s = s := by
  obtain ⟨-, -, hup⟩ | ⟨-, hdown, -⟩ | ⟨hother, -⟩ := capsLatch_cases P (eventByte true (capsSc P)) s
  · exact hup
  · simp at hdown
  · simp at hother

/-- An event of any other scancode is sent as popped (R134). -/
theorem capsLatch_of_not_isCaps {P : Config.Params} {ev : Byte} (h : isCaps P ev = false) (s : State) :
    capsLatch P ev s = { s with tx := s.tx ++ [ev] } := by
  obtain ⟨hcaps, -⟩ | ⟨hcaps, -⟩ | ⟨-, hother⟩ := capsLatch_cases P ev s
  · simp [h] at hcaps
  · simp [h] at hcaps
  · exact hother

/-! ### The statements settled -/

/-- Settles O33: a byte with the value of a caps-lock event is that event, which is the latch's case for its direction; any other
scancode is the latch's last case. -/
theorem capsLatchTogglesOnDownEvents : Obligations.CapsLatchTogglesOnDownEvents := by
  intro P ev s
  have hdown (hvalue : ev.toNat = (capsSc P).toNat) : ev = eventByte false (capsSc P) :=
    eq_eventByte_of_toNat (by simpa using hvalue)
  refine ⟨fun hvalue hoff => ?_, fun hvalue hon => ?_, fun hvalue => ?_, fun hother => ?_⟩
  · rw [hdown hvalue, capsLatch_downEvent, hoff, eventByte_eq_ofNat]
    simp
  · rw [hdown hvalue, capsLatch_downEvent, hon, eventByte_eq_ofNat]
    simp
  · rw [eq_eventByte_of_toNat (up := true) hvalue, capsLatch_upEvent]
  · exact capsLatch_of_not_isCaps ((isCaps_eq_false_iff P ev).2 hother) s

end Sys2Proof.Machine
end

section
/-! The command decoder (spec/44_command_decoder.md): which command a byte is, and what the commands that write one element
or none leave of the state.

The idea: a command byte is its two type bits over its six value bits, so the two fields read back from the byte and the type
alone picks the branch of the decoder; the quantity that a parameter command writes fits a byte, so it is 4v as a number. -/

namespace Sys2Proof.Machine

/-! ### The fields of command bytes -/

/-- The byte as a number (R62). -/
theorem ofNat_eq_append (t : BitVec 2) (v : Value) : BitVec.ofNat 8 (0x40 * t.toNat + v.toNat) = t ++ v := by
  have happend : (t ++ v).toNat = 0x40 * t.toNat + v.toNat := by
    rw [BitVec.toNat_append, ← Nat.shiftLeft_add_eq_or_of_lt v.isLt, Nat.shiftLeft_eq, Nat.mul_comm]
  rw [← happend, BitVec.ofNat_toNat, BitVec.setWidth_eq]

@[simp] theorem commandType_append (t : BitVec 2) (v : Value) : commandType (t ++ v) = t :=
  BitVec.extractLsb'_append_eq_left

@[simp] theorem commandValue_append (t : BitVec 2) (v : Value) : commandValue (t ++ v) = v :=
  BitVec.extractLsb'_append_eq_right

/-! ### The branches of the decoder -/

/-- Type 00 (R141). -/
theorem decodeByte_of_regular {b : Byte} (h : commandType b = 0b00) : decodeByte b = decodeRegular (commandValue b) :=
  if_pos h

/-- Type 01 (R149). -/
theorem decodeByte_of_delay {b : Byte} (h : commandType b = 0b01) : decodeByte b = .setDelay (commandValue b) := by
  simp [decodeByte, h]

/-- Type 10 (R150). -/
theorem decodeByte_of_rate {b : Byte} (h : commandType b = 0b10) : decodeByte b = .setRate (commandValue b) := by
  simp [decodeByte, h]

/-- Type 11 (R151). -/
theorem decodeByte_of_reserved {b : Byte} (h : commandType b = 0b11) : decodeByte b = .reservedType (commandValue b) := by
  simp [decodeByte, h]

/-- The byte `0x40 + v` (R149). -/
theorem decodeByte_delayByte (v : Value) : decodeByte (BitVec.ofNat 8 (0x40 + v.toNat)) = .setDelay v := by
  have hbyte : BitVec.ofNat 8 (0x40 + v.toNat) = 0b01#2 ++ v := ofNat_eq_append 0b01#2 v
  rw [hbyte, decodeByte_of_delay (commandType_append 0b01#2 v), commandValue_append]

/-- The byte `0x80 + v` (R150). -/
theorem decodeByte_rateByte (v : Value) : decodeByte (BitVec.ofNat 8 (0x80 + v.toNat)) = .setRate v := by
  have hbyte : BitVec.ofNat 8 (0x80 + v.toNat) = 0b10#2 ++ v := ofNat_eq_append 0b10#2 v
  rw [hbyte, decodeByte_of_rate (commandType_append 0b10#2 v), commandValue_append]

/-- An opcode number from 7 on is in one of the table's four rows of unrecognised opcodes (R64, R152). -/
theorem decodeRegular_of_seven_le {v : Value} (h : 7 ≤ v.toNat) :
    decodeRegular v = .unrecognised07 ∨ decodeRegular v = .unrecognised08 v
      ∨ decodeRegular v = .unrecognised10 v ∨ decodeRegular v = .unrecognised20 v := by
  have hnamed : v ≠ 0 ∧ v ≠ 1 ∧ v ≠ 2 ∧ v ≠ 3 ∧ v ≠ 4 ∧ v ≠ 5 ∧ v ≠ 6 := by
    refine ⟨?_, ?_, ?_, ?_, ?_, ?_, ?_⟩ <;> rintro rfl <;> exact absurd h (by decide)
  simp only [decodeRegular, hnamed, if_false]
  split_ifs <;> simp

/-! ### What the commands write -/

theorem State.setLedRed_of_eq {s : State} {on : Bool} (h : s.ledRed = on) : s.setLedRed on = s := by
  subst h; rfl

theorem State.setLedGreen_of_eq {s : State} {on : Bool} (h : s.ledGreen = on) : s.setLedGreen on = s := by
  subst h; rfl

theorem State.setLedBlue_of_eq {s : State} {on : Bool} (h : s.ledBlue = on) : s.setLedBlue on = s := by
  subst h; rfl

/-- Six bits times 4 fit a byte (R63). -/
theorem four_mul_value_le (v : Value) : 4 * v.toNat ≤ 252 := by
  have hv : v.toNat < 64 := v.isLt
  omega

theorem scaledTicks_eq_ofNat (v : Value) : scaledTicks v = BitVec.ofNat 8 (4 * v.toNat) := by
  rw [scaledTicks, Config.TICKS_PER_UNIT, Nat.mul_comm, BitVec.ofNat_mul, BitVec.ofNat_toNat]
  rfl

@[simp] theorem toNat_scaledTicks (v : Value) : (scaledTicks v).toNat = 4 * v.toNat := by
  have hfits := four_mul_value_le v
  rw [scaledTicks_eq_ofNat, BitVec.toNat_ofNat, Nat.mod_eq_of_lt (by omega)]

/-- With a delay of 0 an eligible event sets the same countdown as one that stops the engine (R118). -/
theorem typematicOnEvent_countdown_of_delayTicks_zero {s : State} (h : s.delayTicks = 0) (P : Config.Params) (ev : Byte) :
    (typematicOnEvent P ev s).countdown = 0 := by
  obtain ⟨-, harmed⟩ | ⟨-, hstopped⟩ := typematicOnEvent_cases P ev s
  · rw [harmed]
    exact h
  · rw [hstopped]

/-- The last tick of a countdown reloads it with the rate (R117). -/
theorem typematicTick_countdown_of_one {s : State} (h : s.countdown = 1) : (typematicTick s).countdown = s.rateTicks := by
  obtain ⟨hidle, -⟩ | ⟨-, hfired⟩ | ⟨hrunning, -⟩ := typematicTick_cases s
  · simp [h] at hidle
  · rw [hfired]
  · simp [h] at hrunning

/-! ### The statements settled -/

/-- Settles O6: each command is one write of its indicator, which changes nothing where the level is already there. -/
theorem indicatorCommandsWriteOneIndicator : Obligations.IndicatorCommandsWriteOneIndicator := by
  intro s
  refine ⟨⟨rfl, rfl, fun h => ?_⟩, ⟨rfl, rfl, fun h => ?_⟩, ⟨rfl, rfl, fun h => ?_⟩, ⟨rfl, rfl, fun h => ?_⟩,
    ⟨rfl, rfl, fun h => ?_⟩, ⟨rfl, rfl, fun h => ?_⟩⟩
  · rw [exec_redLedOff, State.setLedRed_of_eq h]
  · rw [exec_redLedOn, State.setLedRed_of_eq h]
  · rw [exec_greenLedOff, State.setLedGreen_of_eq h]
  · rw [exec_greenLedOn, State.setLedGreen_of_eq h]
  · rw [exec_blueLedOff, State.setLedBlue_of_eq h]
  · rw [exec_blueLedOn, State.setLedBlue_of_eq h]

/-- Settles O8: the byte is type 01 over `v`, the quantity written is 4v, and a delay of 0 leaves every event with a countdown
of 0. -/
theorem setDelayWritesFourTimesItsValue : Obligations.SetDelayWritesFourTimesItsValue := by
  intro v s
  have hexec : exec (.setDelay v) s = .next { s with delayTicks := BitVec.ofNat 8 (4 * v.toNat) } := by
    rw [exec_setDelay, scaledTicks_eq_ofNat, State.setDelayTicks]
  refine ⟨decodeByte_delayByte v, hexec, four_mul_value_le v, ?_, ?_⟩
  · rintro rfl
    exact hexec
  · rintro rfl t hnext P ev
    obtain rfl := Host.Outcome.next.inj (hexec.symm.trans hnext)
    exact typematicOnEvent_countdown_of_delayTicks_zero rfl P ev

/-- Settles O9: the byte is type 10 over `v` and the quantity written is 4v; the countdown is not the element written, and the
tick that ends it reads the rate. -/
theorem setRateWritesFourTimesItsValue : Obligations.SetRateWritesFourTimesItsValue := by
  intro v s
  have hexec : exec (.setRate v) s = .next { s with rateTicks := BitVec.ofNat 8 (4 * v.toNat) } := by
    rw [exec_setRate, scaledTicks_eq_ofNat, State.setRateTicks]
  refine ⟨decodeByte_rateByte v, hexec, four_mul_value_le v, ?_, fun t hnext => ?_⟩
  · rintro rfl
    exact hexec
  · obtain rfl := Host.Outcome.next.inj ((exec_setRate v s).symm.trans hnext)
    refine ⟨State.setRateTicks_countdown .., fun hlast => ?_⟩
    rw [typematicTick_countdown_of_one hlast, State.setRateTicks_rateTicks, toNat_scaledTicks]

/-- Settles O10: such a byte decodes to a term of one of the five constructors, and each of these answers the state it is given. -/
theorem ignoredBytesChangeNothing : Obligations.IgnoredBytesChangeNothing := by
  refine ⟨fun b s hbyte => ?_, fun v s => ⟨exec_reservedType v s, exec_unrecognised07 s, exec_unrecognised08 v s,
    exec_unrecognised10 v s, exec_unrecognised20 v s⟩⟩
  rcases hbyte with hreserved | ⟨hregular, hunrecognised⟩
  · rw [decodeByte_of_reserved hreserved, exec_reservedType]
  · rw [decodeByte_of_regular hregular]
    rcases decodeRegular_of_seven_le hunrecognised with h | h | h | h <;> simp [h]

end Sys2Proof.Machine
end

section
/-! Encoding (spec/30_encoding.md): decoding and encoding are inverse, and the set VALID.

The idea: a byte is its type over its value, and each of the four types picks one branch of the decoder. Every byte is the
byte of the command it decodes to, that command is well-formed, and no two well-formed commands share a byte. -/

namespace Sys2Proof.Machine

/-! ### A byte and its two fields -/

/-- A command byte is its type over its value (R62). -/
theorem commandType_append_commandValue (b : Byte) : commandType b ++ commandValue b = b :=
  BitVec.extractLsb'_append_extractLsb'

/-- The number of a byte, by its type and its value (R62). -/
theorem toNat_eq_type_add_value (b : Byte) : b.toNat = 0x40 * (commandType b).toNat + (commandValue b).toNat := by
  have hbyte := (ofNat_eq_append (commandType b) (commandValue b)).trans (commandType_append_commandValue b)
  have htype := (commandType b).isLt
  have hvalue := (commandValue b).isLt
  have hnat := congrArg BitVec.toNat hbyte
  rw [BitVec.toNat_ofNat] at hnat
  omega

/-- The four types (R62). -/
theorem commandType_cases (b : Byte) :
    commandType b = 0b00 ∨ commandType b = 0b01 ∨ commandType b = 0b10 ∨ commandType b = 0b11 := by
  generalize commandType b = t
  revert t
  decide

/-! ### Regular commands -/

theorem decodeByte_regularByte (v : Value) : decodeByte (regularByte v) = decodeRegular v := by
  rw [regularByte, decodeByte_of_regular (commandType_append 0b00#2 v), commandValue_append]

/-- The opcode map, row by row: seven named opcodes, and the four rows of unrecognised ones with their ranges (R64, R141). -/
theorem decodeRegular_cases (v : Value) :
    (v = 0 ∧ decodeRegular v = .redLedOff) ∨ (v = 1 ∧ decodeRegular v = .redLedOn)
      ∨ (v = 2 ∧ decodeRegular v = .greenLedOff) ∨ (v = 3 ∧ decodeRegular v = .greenLedOn)
      ∨ (v = 4 ∧ decodeRegular v = .blueLedOff) ∨ (v = 5 ∧ decodeRegular v = .blueLedOn)
      ∨ (v = 6 ∧ decodeRegular v = .init) ∨ (v = 7 ∧ decodeRegular v = .unrecognised07)
      ∨ (8 ≤ v.toNat ∧ v.toNat < 0x10 ∧ decodeRegular v = .unrecognised08 v)
      ∨ (0x10 ≤ v.toNat ∧ v.toNat < 0x20 ∧ decodeRegular v = .unrecognised10 v)
      ∨ (0x20 ≤ v.toNat ∧ decodeRegular v = .unrecognised20 v) := by
  unfold decodeRegular
  repeat' split
  all_goals simp [*]
  all_goals bv_omega

theorem encodeByte_decodeRegular (v : Value) : encodeByte (decodeRegular v) = regularByte v := by
  obtain ⟨rfl, h⟩ | ⟨rfl, h⟩ | ⟨rfl, h⟩ | ⟨rfl, h⟩ | ⟨rfl, h⟩ | ⟨rfl, h⟩ | ⟨rfl, h⟩ | ⟨rfl, h⟩
    | ⟨-, -, h⟩ | ⟨-, -, h⟩ | ⟨-, h⟩ :=
    decodeRegular_cases v <;> rw [h, encodeByte]

theorem valueIn_iff (lo hi : Nat) (v : Value) : valueIn lo hi v = true ↔ lo ≤ v.toNat ∧ v.toNat ≤ hi := by
  simp [valueIn]

/-- The ranges that the decoder tests are those of the table's rows (R64). -/
theorem wf_decodeRegular (v : Value) : (decodeRegular v).wf = true := by
  have hv := v.isLt
  obtain ⟨-, h⟩ | ⟨-, h⟩ | ⟨-, h⟩ | ⟨-, h⟩ | ⟨-, h⟩ | ⟨-, h⟩ | ⟨-, h⟩ | ⟨-, h⟩
    | ⟨hlo, hhi, h⟩ | ⟨hlo, hhi, h⟩ | ⟨hlo, h⟩ :=
    decodeRegular_cases v <;> rw [h, Instr.wf]
  · exact (valueIn_iff ..).2 ⟨hlo, by omega⟩
  · exact (valueIn_iff ..).2 ⟨hlo, by omega⟩
  · exact (valueIn_iff ..).2 ⟨hlo, by omega⟩

/-- A value in a ranged row of the table decodes to that row's command (R64, R152). -/
theorem decodeRegular_of_valueIn (v : Value) :
    (valueIn 0x08 0x0F v = true → decodeRegular v = .unrecognised08 v)
      ∧ (valueIn 0x10 0x1F v = true → decodeRegular v = .unrecognised10 v)
      ∧ (valueIn 0x20 0x3F v = true → decodeRegular v = .unrecognised20 v) := by
  simp only [valueIn_iff]
  obtain ⟨rfl, -⟩ | ⟨rfl, -⟩ | ⟨rfl, -⟩ | ⟨rfl, -⟩ | ⟨rfl, -⟩ | ⟨rfl, -⟩ | ⟨rfl, -⟩ | ⟨rfl, -⟩
    | ⟨hlo, hhi, h⟩ | ⟨hlo, hhi, h⟩ | ⟨hlo, h⟩ :=
    decodeRegular_cases v
  iterate 8 decide
  · exact ⟨fun _ => h, fun _ => by omega, fun _ => by omega⟩
  · exact ⟨fun _ => by omega, fun _ => h, fun _ => by omega⟩
  · exact ⟨fun _ => by omega, fun _ => by omega, fun _ => h⟩

/-! ### Every byte, every command -/

theorem encodeByte_decodeByte (b : Byte) : encodeByte (decodeByte b) = b := by
  refine Eq.trans ?_ (commandType_append_commandValue b)
  rcases commandType_cases b with h | h | h | h
  · rw [decodeByte_of_regular h, encodeByte_decodeRegular, h]
    rfl
  · rw [decodeByte_of_delay h, h]
    rfl
  · rw [decodeByte_of_rate h, h]
    rfl
  · rw [decodeByte_of_reserved h, h]
    rfl

theorem wf_decodeByte (b : Byte) : (decodeByte b).wf = true := by
  rcases commandType_cases b with h | h | h | h
  · rw [decodeByte_of_regular h]
    exact wf_decodeRegular _
  · rw [decodeByte_of_delay h, Instr.wf]
  · rw [decodeByte_of_rate h, Instr.wf]
  · rw [decodeByte_of_reserved h, Instr.wf]

theorem decodeByte_encodeByte {i : Instr} (h : i.wf = true) : decodeByte (encodeByte i) = i := by
  cases i with
  | setDelay v => rw [encodeByte, decodeByte_of_delay (commandType_append 0b01#2 v), commandValue_append]
  | setRate v => rw [encodeByte, decodeByte_of_rate (commandType_append 0b10#2 v), commandValue_append]
  | reservedType v => rw [encodeByte, decodeByte_of_reserved (commandType_append 0b11#2 v), commandValue_append]
  | unrecognised08 v => exact (decodeByte_regularByte v).trans ((decodeRegular_of_valueIn v).1 h)
  | unrecognised10 v => exact (decodeByte_regularByte v).trans ((decodeRegular_of_valueIn v).2.1 h)
  | unrecognised20 v => exact (decodeByte_regularByte v).trans ((decodeRegular_of_valueIn v).2.2 h)
  | _ => rfl

/-- INIT is the one byte 0x06 (R64). -/
theorem decodeByte_eq_init_iff (b : Byte) : decodeByte b = .init ↔ b = 0x06 := by
  refine ⟨fun h => ?_, fun h => by rw [h]; rfl⟩
  rw [← encodeByte_decodeByte b, h]
  rfl

theorem decode_eq_ok_iff (bytes rest : List Byte) (i : Instr) :
    decode bytes = .ok (i, rest) ↔ ∃ b, bytes = b :: rest ∧ decodeByte b = i := by
  cases bytes with
  | nil => simp [decode]
  | cons b tail => simp [decode, and_comm]

/-! ### The set VALID -/

theorem toNat_scRow (sc : Scancode) : (scRow sc).toNat = sc.toNat / 16 := by
  have hsc := sc.isLt
  rw [scRow, BitVec.extractLsb'_toNat, Nat.shiftRight_eq_div_pow]
  omega

theorem toNat_scCol (sc : Scancode) : (scCol sc).toNat = sc.toNat % 8 := by
  rw [scCol, BitVec.extractLsb'_toNat, Nat.shiftRight_zero]

theorem scBank_eq_false_iff (sc : Scancode) : scBank sc = false ↔ sc.toNat / 8 % 2 = 0 := by
  rw [scBank, BitVec.getLsbD, Nat.testBit_eq_decide_div_mod_eq, decide_eq_false_iff_not]
  omega

/-- Row, bank and column as parts of the number (R44, R60). -/
theorem isValid_iff (sc : Scancode) : isValid sc = true ↔
    (sc.toNat / 16 ≤ 4 ∧ (sc.toNat / 8 % 2 = 0 ∨ sc.toNat % 8 ≤ 6))
      ∨ (sc.toNat / 16 = 5 ∧ sc.toNat / 8 % 2 = 0 ∧ sc.toNat % 8 ≤ 6) := by
  simp [isValid, Config.META_ROW, BitVec.lt_def, BitVec.le_def, ← BitVec.toNat_inj, toNat_scRow, toNat_scCol,
    scBank_eq_false_iff, and_assoc, Nat.lt_succ_iff]

theorem pairwise_lt_validScancodes : validScancodes.Pairwise (· < ·) := by
  refine List.Pairwise.filter _ (List.pairwise_map.2 ?_)
  refine List.pairwise_lt_range.imp_of_mem fun {a b} ha hb hlt => ?_
  rw [List.mem_range] at ha hb
  rw [BitVec.lt_def, BitVec.toNat_ofNat, BitVec.toNat_ofNat, Nat.mod_eq_of_lt ha, Nat.mod_eq_of_lt hb]
  exact hlt

/-! ### The statements settled -/

/-- Settles O1: every byte is the encoding of what it decodes to, which is well-formed, and a well-formed command is decoded
from its byte. -/
theorem decodeAndEncodeAgree : Obligations.DecodeAndEncodeAgree := by
  intro i bytes rest
  rw [decode_eq_ok_iff]
  constructor
  · rintro ⟨b, rfl, rfl⟩
    exact ⟨wf_decodeByte b, by rw [encode, encodeByte_decodeByte]; rfl⟩
  · rintro ⟨hwf, rfl⟩
    exact ⟨encodeByte i, rfl, decodeByte_encodeByte hwf⟩

/-- Settles O2: the decoder evaluated at each word. -/
theorem commandWordsDecode : Obligations.CommandWordsDecode := by
  refine ⟨?_, ?_, ?_, ?_, ?_, ?_, ?_, ?_, ?_, ?_, ?_⟩ <;> rfl

/-- Settles O3: the direction is the top bit over the scancode. -/
theorem eventByteFieldsReadBack : Obligations.EventByteFieldsReadBack :=
  fun up sc => ⟨toNat_eventByte up sc, evIsUp_eventByte up sc, evScancode_eventByte up sc⟩

/-- Settles O4: VALID is a filter of the ascending list of all scancodes, so its test is membership and its order ascending. -/
theorem validIsTheScannedSet : Obligations.ValidIsTheScannedSet :=
  ⟨fun sc => (mem_validScancodes sc).trans (isValid_iff sc), by decide +kernel, pairwise_lt_validScancodes⟩

end Sys2Proof.Machine
end

section
/-! The commands as writes of the state (spec/44_command_decoder.md): the whole map, frames, idempotence and commutation.

The idea: every command but INIT writes at most one of five elements, so it is a patch, one optional value per element.
Frames, idempotence and commutation are then facts about patches. INIT is the start-up state but for the ring storage and
what belongs to the boundary. -/

namespace Sys2Proof.Machine

/-! ### INIT -/

/-- The state that INIT leaves (R148). -/
def State.started (s : State) : State :=
  { State.reset with
    qMem := s.qMem, tx := s.tx, pending := s.pending, envIndex := s.envIndex, epoch := s.epoch }

theorem exec_init_eq_started (s : State) : exec .init s = .next s.started := exec_init s

@[simp] theorem reset_keyAt (sc : Scancode) : State.reset.keyAt sc = false := by
  simp [State.keyAt, State.reset]

@[simp] theorem reset_steadyAt (sc : Scancode) : State.reset.steadyAt sc = 0 := by
  simp [State.steadyAt, State.reset]

section

variable (s : State)

@[simp] theorem State.started_keyAt (sc : Scancode) : s.started.keyAt sc = false := reset_keyAt sc
@[simp] theorem State.started_steadyAt (sc : Scancode) : s.started.steadyAt sc = 0 := reset_steadyAt sc
@[simp] theorem State.started_delayTicks : s.started.delayTicks = 252 := rfl
@[simp] theorem State.started_rateTicks : s.started.rateTicks = 100 := rfl
@[simp] theorem State.started_tx : s.started.tx = s.tx := rfl
@[simp] theorem State.started_ringRead (a : Cursor) : s.started.ringRead a = s.ringRead a := rfl
@[simp] theorem State.started_started : s.started.started = s.started := rfl

end

/-! ### Patches -/

/-- One optional value for each element that a command other than INIT can write (R142 to R150). -/
structure Patch where
  red : Option Bool := none
  green : Option Bool := none
  blue : Option Bool := none
  delay : Option Byte := none
  rate : Option Byte := none

/-- The state with the values of a patch written. -/
def Patch.apply (p : Patch) (s : State) : State :=
  { s with
    ledRed := p.red.getD s.ledRed
    ledGreen := p.green.getD s.ledGreen
    ledBlue := p.blue.getD s.ledBlue
    delayTicks := p.delay.getD s.delayTicks
    rateTicks := p.rate.getD s.rateTicks }

/-- What a command writes, INIT aside. -/
def patchOf : Instr → Patch
  | .redLedOff => { red := some false }
  | .redLedOn => { red := some true }
  | .greenLedOff => { green := some false }
  | .greenLedOn => { green := some true }
  | .blueLedOff => { blue := some false }
  | .blueLedOn => { blue := some true }
  | .setDelay v => { delay := some (scaledTicks v) }
  | .setRate v => { rate := some (scaledTicks v) }
  | .init | .reservedType _ | .unrecognised07 | .unrecognised08 _ | .unrecognised10 _ | .unrecognised20 _ => {}

/-- Every command but INIT answers the state with its patch written. -/
theorem exec_eq_apply {i : Instr} (h : i ≠ .init) (s : State) : exec i s = .next ((patchOf i).apply s) := by
  cases i with
  | init => exact absurd rfl h
  | _ => rfl

/-- Writing a value where it has just been written, or where nothing is written, changes nothing. -/
theorem getD_getD_self {α : Type} (o : Option α) (a : α) : o.getD (o.getD a) = o.getD a := by
  cases o <;> rfl

theorem Patch.apply_apply_self (p : Patch) (s : State) : p.apply (p.apply s) = p.apply s := by
  simp only [Patch.apply, getD_getD_self]

/-- Of two values for one element, one of them absent, it does not matter which is written first. -/
theorem getD_getD_comm {α : Type} {o o' : Option α} (h : o = none ∨ o' = none) (a : α) :
    o.getD (o'.getD a) = o'.getD (o.getD a) := by
  rcases h with rfl | rfl <;> rfl

/-- Two patches have a value for no element in common. -/
def Patch.apart (p q : Patch) : Prop :=
  (p.red = none ∨ q.red = none) ∧ (p.green = none ∨ q.green = none) ∧ (p.blue = none ∨ q.blue = none)
    ∧ (p.delay = none ∨ q.delay = none) ∧ (p.rate = none ∨ q.rate = none)

theorem Patch.apply_comm {p q : Patch} (h : p.apart q) (s : State) : p.apply (q.apply s) = q.apply (p.apply s) := by
  obtain ⟨hred, hgreen, hblue, hdelay, hrate⟩ := h
  simp only [Patch.apply, getD_getD_comm hred, getD_getD_comm hgreen, getD_getD_comm hblue, getD_getD_comm hdelay,
    getD_getD_comm hrate]

/-- A patch has a value for the element that the command's class names, and for no other. -/
theorem patchOf_eq_none (i : Instr) :
    (Writes.of i ≠ .red → (patchOf i).red = none) ∧ (Writes.of i ≠ .green → (patchOf i).green = none)
      ∧ (Writes.of i ≠ .blue → (patchOf i).blue = none) ∧ (Writes.of i ≠ .delay → (patchOf i).delay = none)
      ∧ (Writes.of i ≠ .rate → (patchOf i).rate = none) := by
  cases i <;> simp [patchOf, Writes.of]

theorem disjoint_iff (a b : Writes) :
    Writes.disjoint a b = true ↔ a = .nothing ∨ b = .nothing ∨ (a ≠ b ∧ a ≠ .everything ∧ b ≠ .everything) := by
  simp [Writes.disjoint, or_assoc, and_assoc]

/-- Commands of disjoint classes have patches apart: an element that both write is the class of both. -/
theorem patchOf_apart {i j : Instr} (h : Writes.disjoint (Writes.of i) (Writes.of j) = true) :
    (patchOf i).apart (patchOf j) := by
  have hsplit : ∀ w : Writes, w ≠ .nothing → Writes.of i ≠ w ∨ Writes.of j ≠ w := by
    rintro w hw
    by_contra hboth
    obtain ⟨hi, hj⟩ := not_or.1 hboth
    rw [not_not.1 hi, not_not.1 hj, disjoint_iff] at h
    simp [hw] at h
  obtain ⟨hred, hgreen, hblue, hdelay, hrate⟩ := patchOf_eq_none i
  obtain ⟨hred', hgreen', hblue', hdelay', hrate'⟩ := patchOf_eq_none j
  exact ⟨(hsplit .red (by decide)).imp hred hred', (hsplit .green (by decide)).imp hgreen hgreen',
    (hsplit .blue (by decide)).imp hblue hblue', (hsplit .delay (by decide)).imp hdelay hdelay',
    (hsplit .rate (by decide)).imp hrate hrate'⟩

theorem ne_init_of_writes {i : Instr} (h : Writes.of i ≠ .everything) : i ≠ .init := by
  rintro rfl
  exact h rfl

/-- Only commands that change nothing are apart from INIT. -/
theorem exec_of_writes_nothing {i : Instr} (h : Writes.of i = .nothing) (s : State) : exec i s = .next s := by
  cases i with
  | reservedType v => rfl
  | unrecognised07 => rfl
  | unrecognised08 v => rfl
  | unrecognised10 v => rfl
  | unrecognised20 v => rfl
  | _ => cases h

theorem exec_next (i : Instr) (s : State) : ∃ t, exec i s = .next t := by
  by_cases h : i = .init
  · exact ⟨_, h ▸ exec_init_eq_started s⟩
  · exact ⟨_, exec_eq_apply h s⟩

/-! ### The whole map -/

/-- A number from 7 on is none of the named opcodes. -/
theorem ne_named_opcode {n : Nat} (h : 7 ≤ n) : n ≠ 0 ∧ n ≠ 1 ∧ n ≠ 2 ∧ n ≠ 3 ∧ n ≠ 4 ∧ n ≠ 5 ∧ n ≠ 6 := by
  omega

/-- The effect of the opcodes of type 00, as numbers (R64). -/
theorem exec_decodeRegular (v : Value) (s : State) :
    exec (decodeRegular v) s = .next (
      if v.toNat = 0 then { s with ledRed := false }
      else if v.toNat = 1 then { s with ledRed := true }
      else if v.toNat = 2 then { s with ledGreen := false }
      else if v.toNat = 3 then { s with ledGreen := true }
      else if v.toNat = 4 then { s with ledBlue := false }
      else if v.toNat = 5 then { s with ledBlue := true }
      else if v.toNat = 6 then s.started
      else s) := by
  obtain ⟨rfl, h⟩ | ⟨rfl, h⟩ | ⟨rfl, h⟩ | ⟨rfl, h⟩ | ⟨rfl, h⟩ | ⟨rfl, h⟩ | ⟨rfl, h⟩ | ⟨rfl, h⟩
    | ⟨hlo, -, h⟩ | ⟨hlo, -, h⟩ | ⟨hlo, h⟩ :=
    decodeRegular_cases v
  iterate 8 rw [h]; rfl
  all_goals
    simp only [h, exec_unrecognised08, exec_unrecognised10, exec_unrecognised20,
      ne_named_opcode (show 7 ≤ v.toNat by omega), if_false]

/-! ### The statements settled -/

/-- Settles O5: the type, which is the range of 0x40 the byte lies in, picks the branch; in the first range the opcode is the
byte itself, and in the next two the value is the byte less the start of its range. -/
theorem everyCommandByteHasItsTableEffect : Obligations.EveryCommandByteHasItsTableEffect := by
  intro b s
  have hbyte := toNat_eq_type_add_value b
  have hvalue := (commandValue b).isLt
  rcases commandType_cases b with h | h | h | h <;> rw [h] at hbyte <;> simp at hbyte
  · rw [decodeByte_of_regular h, exec_decodeRegular, ← hbyte, if_pos (show b.toNat < 0x40 by omega)]
    rfl
  all_goals simp only [ne_named_opcode (show 7 ≤ b.toNat by omega), if_false, show ¬ b.toNat < 0x40 by omega]
  · rw [decodeByte_of_delay h, exec_setDelay, scaledTicks_eq_ofNat, if_pos (show b.toNat < 0x80 by omega),
      hbyte, Nat.add_sub_cancel_left]
    rfl
  · rw [decodeByte_of_rate h, exec_setRate, scaledTicks_eq_ofNat, if_neg (show ¬ b.toNat < 0x80 by omega),
      if_pos (show b.toNat < 0xC0 by omega), hbyte, Nat.add_sub_cancel_left]
    rfl
  · rw [decodeByte_of_reserved h, exec_reservedType, if_neg (show ¬ b.toNat < 0x80 by omega),
      if_neg (show ¬ b.toNat < 0xC0 by omega)]

/-- Settles O7: each element of the state that INIT leaves. -/
theorem initClearsAllButTheRing : Obligations.InitClearsAllButTheRing :=
  fun s => ⟨s.started, exec_init_eq_started s, fun sc => ⟨s.started_keyAt sc, s.started_steadyAt sc⟩, rfl, rfl, rfl, rfl, rfl,
    rfl, rfl, rfl, rfl, rfl, rfl, s.started_ringRead, rfl, rfl, rfl, rfl, rfl⟩

/-- Settles O11: no element named is written by a patch. -/
theorem commandsButInitKeepKeysQueueAndRepeat : Obligations.CommandsButInitKeepKeysQueueAndRepeat := by
  intro i s t hi hnext
  obtain rfl := Host.Outcome.next.inj ((exec_eq_apply hi s).symm.trans hnext)
  exact ⟨fun _ => ⟨rfl, rfl⟩, fun _ => rfl, rfl, rfl, rfl, rfl, rfl, rfl, rfl, rfl, rfl, rfl, rfl⟩

/-- Settles O12: a patch written twice is that patch, and INIT's state is a start-up state already. -/
theorem commandsAreIdempotent : Obligations.CommandsAreIdempotent := by
  intro i s
  by_cases hi : i = .init
  · subst hi
    exact ⟨s.started, exec_init_eq_started s, by rw [exec_init_eq_started, State.started_started]⟩
  · exact ⟨_, exec_eq_apply hi s, by rw [exec_eq_apply hi, Patch.apply_apply_self]⟩

/-- Settles O13: one of the two changes nothing, or neither is INIT and their patches are apart. -/
theorem commandsThatWriteApartCommute : Obligations.CommandsThatWriteApartCommute := by
  intro i j s h
  rcases (disjoint_iff _ _).1 h with hi | hj | ⟨-, hi, hj⟩
  · obtain ⟨u, hu⟩ := exec_next j s
    exact ⟨s, u, u, exec_of_writes_nothing hi s, hu, hu, exec_of_writes_nothing hi u⟩
  · obtain ⟨t, ht⟩ := exec_next i s
    exact ⟨t, s, t, ht, exec_of_writes_nothing hj s, exec_of_writes_nothing hj t, ht⟩
  · have hexec_i := exec_eq_apply (ne_init_of_writes hi)
    have hexec_j := exec_eq_apply (ne_init_of_writes hj)
    refine ⟨_, _, _, hexec_i s, hexec_j s, hexec_j _, ?_⟩
    rw [hexec_i, Patch.apply_comm (patchOf_apart h)]

/-- Settles O46: each element of the reset state. -/
theorem resetLeavesTheStartUpValues : Obligations.ResetLeavesTheStartUpValues :=
  ⟨fun sc => ⟨reset_keyAt sc, reset_steadyAt sc⟩, rfl, rfl, rfl, rfl, rfl, rfl, rfl, rfl, rfl, rfl, rfl, rfl, rfl, fun _ => rfl⟩

/-- Settles O47: both are the start-up state, with what they keep. -/
theorem resetAndInitReachTheSameState : Obligations.ResetAndInitReachTheSameState := exec_init_eq_started

end Sys2Proof.Machine
end

section
/-! The event queue as a list (spec/41_event_queue_fifo.md): occupancy, overflow and the FIFO law.

The idea: the unread entries are a list, which a push at occupancy below 15 extends at its end and at occupancy 15 empties,
and from which a pop takes the head. Every law of the queue is an induction with these two facts as its steps. -/

namespace Sys2Proof.Machine

/-! ### The unread entries -/

theorem State.unread_length (s : State) : s.unread.length = s.occupancy := by
  simp [State.unread]

theorem State.occupancy_eq_zero_iff (s : State) : s.occupancy = 0 ↔ s.qWr = s.qRd := by
  rw [← State.queueEmpty_iff, State.queueEmpty, decide_eq_true_eq]

theorem State.unread_of_eq {s : State} (h : s.qWr = s.qRd) : s.unread = [] := by
  rw [← List.length_eq_zero_iff, State.unread_length, State.occupancy_eq_zero_iff, h]

theorem pop_started (s : State) : pop s.started = (none, s.started) := pop_of_eq rfl

/-- The slots that are read by now lie behind `q_wr`. -/
theorem State.slotAfter_ne_qWr {s : State} {k : Nat} (h : k < s.occupancy) : s.slotAfter k ≠ s.qWr := by
  intro heq
  have hval := congrArg Fin.val heq
  have hwr := cursor_lt s.qWr
  have hrd := cursor_lt s.qRd
  rw [State.occupancy_eq] at h
  rw [State.slotAfter_val] at hval
  omega

/-- The slot that the next push writes is the one after the unread entries. -/
theorem State.slotAfter_occupancy (s : State) : s.slotAfter s.occupancy = s.qWr := by
  have hwr := cursor_lt s.qWr
  have hrd := cursor_lt s.qRd
  rw [Fin.ext_iff, State.slotAfter_val, State.occupancy_eq]
  omega

theorem State.slotAfter_zero (s : State) : s.slotAfter 0 = s.qRd := by
  rw [Fin.ext_iff, State.slotAfter_val, Nat.add_zero, Nat.mod_eq_of_lt (cursor_lt s.qRd)]

theorem State.slotAfter_setQRd_advance (s : State) (k : Nat) :
    (s.setQRd (advance s.qRd)).slotAfter k = s.slotAfter (k + 1) := by
  rw [Fin.ext_iff, State.slotAfter_val, State.slotAfter_val, State.setQRd_qRd, advance_val]
  omega

/-- A push with room left adds its byte at the end (R104). -/
theorem unread_push_of_lt (e : Byte) {s : State} (h : s.occupancy < 15) : (push e s).unread = s.unread ++ [e] := by
  have hocc : (push e s).occupancy = s.occupancy + 1 := by
    rw [push_occupancy]
    omega
  rw [State.unread, hocc, List.range_succ, List.map_append, State.unread]
  congr 1
  · refine List.map_congr_left fun k hk => ?_
    rw [push_slotAfter, push_ringRead, if_neg (State.slotAfter_ne_qWr (List.mem_range.1 hk))]
  · simp [State.slotAfter_occupancy]

/-- A push at occupancy 15 makes the backlog unreadable (R104, C4; log 22). -/
theorem unread_push_of_full (e : Byte) {s : State} (h : s.occupancy = 15) : (push e s).unread = [] := by
  rw [← List.length_eq_zero_iff, State.unread_length, push_occupancy, h]

theorem State.occupancy_cases (s : State) : s.occupancy < 15 ∨ s.occupancy = 15 := by
  have hlt := s.occupancy_lt
  omega

/-- What a pop takes is the head of the unread entries (R103). -/
theorem unread_of_ne {s : State} (h : s.qWr ≠ s.qRd) :
    s.unread = s.ringRead s.qRd :: (s.setQRd (advance s.qRd)).unread := by
  have hpos := State.occupancy_pos h
  have hocc : s.occupancy = (s.setQRd (advance s.qRd)).occupancy + 1 := by
    rw [setQRd_occupancy h]
    omega
  rw [State.unread, hocc, List.range_succ_eq_map, List.map_cons, List.map_map, State.slotAfter_zero, State.unread]
  simp only [State.setQRd_ringRead, State.slotAfter_setQRd_advance, Function.comp_def, Nat.succ_eq_add_one]

/-- The byte a pop gives, followed by what it leaves unread, is what was unread. -/
theorem pop_append_unread (s : State) : (pop s).1.toList ++ (pop s).2.unread = s.unread := by
  obtain ⟨-, hpop⟩ | ⟨hne, hpop⟩ := pop_cases s <;> rw [hpop]
  · rfl
  · rw [unread_of_ne hne]
    rfl

/-! ### Several pushes -/

theorem pushAll_append (es es' : List Byte) (s : State) : pushAll (es ++ es') s = pushAll es' (pushAll es s) :=
  List.foldl_append

@[simp] theorem pushAll_cons (e : Byte) (es : List Byte) (s : State) : pushAll (e :: es) s = pushAll es (push e s) := rfl

@[simp] theorem pushAll_nil (s : State) : pushAll [] s = s := rfl

theorem lastOf_succ_concat (m : Nat) (es : List Byte) (e : Byte) : lastOf (m + 1) (es ++ [e]) = lastOf m es ++ [e] := by
  rw [lastOf, List.length_append, List.length_singleton, Nat.add_sub_add_right,
    List.drop_append_of_le_length (Nat.sub_le _ _), lastOf]

theorem lastOf_length (es : List Byte) : lastOf es.length es = es := by
  rw [lastOf, Nat.sub_self, List.drop_zero]

@[simp] theorem lastOf_zero (es : List Byte) : lastOf 0 es = [] := by
  rw [lastOf, Nat.sub_zero, List.drop_length]

theorem pushAll_occupancy (es : List Byte) (s : State) : (pushAll es s).occupancy = (s.occupancy + es.length) % 16 := by
  induction es generalizing s with
  | nil => rw [pushAll_nil, List.length_nil, Nat.add_zero, Nat.mod_eq_of_lt s.occupancy_lt]
  | cons e rest ih =>
    rw [pushAll_cons, ih, push_occupancy, List.length_cons]
    omega

/-- After any pushes the queue shows the last entries of the backlog followed by the pushes, as many as its occupancy. -/
theorem unread_pushAll (es : List Byte) (s : State) :
    (pushAll es s).unread = lastOf (pushAll es s).occupancy (s.unread ++ es) := by
  induction es using List.reverseRecOn with
  | nil => rw [pushAll_nil, List.append_nil, ← State.unread_length, lastOf_length]
  | append_singleton es e ih =>
    rw [pushAll_append, pushAll_cons, pushAll_nil, push_occupancy]
    rcases (pushAll es s).occupancy_cases with hroom | hfull
    · rw [unread_push_of_lt e hroom, ih, Nat.mod_eq_of_lt (by omega), ← List.append_assoc, lastOf_succ_concat]
    · rw [unread_push_of_full e hfull, hfull, lastOf_zero]

/-- With room for all of them, pushes are added at the end. -/
theorem unread_pushAll_of_le {es : List Byte} {s : State} (h : s.occupancy + es.length ≤ 15) :
    (pushAll es s).unread = s.unread ++ es := by
  rw [unread_pushAll, pushAll_occupancy, Nat.mod_eq_of_lt (by omega), ← State.unread_length, ← List.length_append,
    lastOf_length]

/-! ### The statements settled -/

/-- Settles O16: both differences are the same number modulo 256 and 16, and each order of the cursors fixes that number. -/
theorem occupancyIsTheWrappedDifference : Obligations.OccupancyIsTheWrappedDifference := by
  intro s
  have hwr := cursor_lt s.qWr
  have hrd := cursor_lt s.qRd
  have hdiff : s.cursorDifference.toNat = (s.qWr.val + 256 - s.qRd.val) % 256 := by
    rw [State.cursorDifference, BitVec.toNat_sub, BitVec.toNat_ofNat, BitVec.toNat_ofNat]
    omega
  refine ⟨fun h => ?_, fun h => ?_, s.occupancy_lt, s.occupancy_eq_zero_iff, s.unread_length⟩
  · rw [Fin.le_def] at h
    rw [hdiff, State.occupancy_eq]
    omega
  · rw [Fin.lt_def] at h
    rw [hdiff, State.occupancy_eq]
    omega

/-- Settles O17: the occupancy counts modulo 16, and the unread entries are the last so many. -/
theorem pushesLeaveTheLastEntriesModuloCapacity : Obligations.PushesLeaveTheLastEntriesModuloCapacity :=
  fun es s => ⟨pushAll_occupancy es s, by rw [unread_pushAll, pushAll_occupancy]⟩

/-- Settles O18: a push with room adds its byte at the end and a pop takes the head, so what was unread followed by what is
pushed stays the sum of what is popped and what is left. -/
theorem queueIsFifoUntilItOverflows : Obligations.QueueIsFifoUntilItOverflows := by
  intro ops s hroom
  induction ops generalizing s with
  | nil => simp [poppedBy, afterOps, pushedBy]
  | cons op rest ih =>
    cases op with
    | push e =>
      obtain ⟨hlt, hrest⟩ := hroom
      calc poppedBy rest (push e s) ++ (afterOps rest (push e s)).unread
          = (push e s).unread ++ pushedBy rest := ih _ hrest
        _ = s.unread ++ e :: pushedBy rest := by
            rw [unread_push_of_lt e hlt, List.append_assoc]
            rfl
    | pop =>
      calc ((pop s).1.toList ++ poppedBy rest (pop s).2) ++ (afterOps rest (pop s).2).unread
          = (pop s).1.toList ++ ((pop s).2.unread ++ pushedBy rest) := by rw [List.append_assoc, ih _ hroom]
        _ = s.unread ++ pushedBy rest := by rw [← List.append_assoc, pop_append_unread]

/-- A push makes no other byte readable than its own, overflow or not. -/
theorem unread_push_subset (e : Byte) (s : State) : (push e s).unread ⊆ s.unread ++ [e] := by
  rcases s.occupancy_cases with hroom | hfull
  · rw [unread_push_of_lt e hroom]
    exact List.Subset.refl _
  · rw [unread_push_of_full e hfull]
    exact List.nil_subset _

/-- Pops give only bytes that were unread or have been pushed. -/
theorem poppedBy_subset (ops : List QueueOp) (s : State) : poppedBy ops s ⊆ s.unread ++ pushedBy ops := by
  induction ops generalizing s with
  | nil => exact List.nil_subset _
  | cons op rest ih =>
    cases op with
    | push e =>
      intro b hb
      rw [pushedBy, List.append_cons, List.mem_append]
      exact (List.mem_append.1 (ih (push e s) hb)).imp_left (unread_push_subset e s ·)
    | pop =>
      intro b hb
      rw [pushedBy, ← pop_append_unread, List.append_assoc, List.mem_append]
      exact (List.mem_append.1 hb).imp_right (ih (pop s).2 ·)

/-- Settles O19: an empty queue has no unread byte. -/
theorem popsGiveOnlyPushedBytes : Obligations.PopsGiveOnlyPushedBytes := by
  intro ops s hempty b hb
  have hmem := poppedBy_subset ops s hb
  rwa [State.unread_of_eq hempty] at hmem

/-- Settles O20: INIT and reset leave both cursors 0, and equal cursors are an empty queue. -/
theorem initAndResetEmptyTheQueue : Obligations.InitAndResetEmptyTheQueue :=
  fun s => ⟨⟨s.started, exec_init_eq_started s, rfl, rfl, pop_started s, State.unread_of_eq rfl, s.started_ringRead⟩,
    rfl, rfl, pop_of_eq rfl, State.unread_of_eq rfl⟩

end Sys2Proof.Machine
end

section
/-! The scan tick as a whole (spec/40_debounce_filter_bank.md): what it writes, what it reads, and what bounce does.

The idea: with the banks put aside, a visit is the push of its event or nothing, so a scan is the push of its events in scan
order; and its events depend on the banks and the levels of VALID alone. Bounce keeps the counter at most as large as the run
of equal levels it counts, so it confirms nothing until a level lasts. -/

namespace Sys2Proof.Machine

/-! ### What the producer owns -/

/-- A state with other banks. -/
def State.withBanks (s : State) (keys : Vector Bool Config.N_SLOTS) (counters : Vector Byte Config.N_SLOTS) : State :=
  { s with keyState := keys, steady := counters }

/-- A state with the banks, the ring storage and the write cursor of another one (R26, R92). -/
def State.withProducer (s t : State) : State :=
  { s with keyState := t.keyState, steady := t.steady, qMem := t.qMem, qWr := t.qWr }

@[simp] theorem State.withBanks_self (s : State) : s.withBanks s.keyState s.steady = s := rfl

@[simp] theorem State.withBanks_withBanks (s : State) (keys keys' : Vector Bool Config.N_SLOTS)
    (counters counters' : Vector Byte Config.N_SLOTS) :
    (s.withBanks keys counters).withBanks keys' counters' = s.withBanks keys' counters' := rfl

theorem update_withBanks (sc : Scancode) (p : Bool) (s : State) (keys : Vector Bool Config.N_SLOTS)
    (counters : Vector Byte Config.N_SLOTS) : (update sc p s).withBanks keys counters = s.withBanks keys counters := by
  rw [(update_eq sc p s).1]
  rfl

section

variable {P : Config.Params} {raw : BitVec 128} {s : State} {sc : Scancode} {p : Bool}

/-- Outside the banks, a visit that confirms pushes the event of the level, and one that does not changes nothing (R83). -/
theorem visit_withBanks (keys : Vector Bool Config.N_SLOTS) (counters : Vector Byte Config.N_SLOTS) :
    (visit P raw s sc).withBanks keys counters
      = if confirms P raw s sc = true then push (levelEvent (raw.getLsbD sc.toNat) sc) (s.withBanks keys counters)
        else s.withBanks keys counters := by
  have hcount : (update sc (raw.getLsbD sc.toNat) s).steadyAt sc = s.scanCount raw sc := by
    rw [update_steadyAt, if_pos rfl, State.scanCount]
  rw [visit, confirms]
  obtain ⟨hpast, hconfirm⟩ | ⟨hbelow, hconfirm⟩ := confirm_cases P sc (update sc (raw.getLsbD sc.toNat) s)
  · rw [hcount] at hpast
    rw [hconfirm, if_pos (decide_eq_true hpast), update_keyAt, if_pos rfl, ← update_withBanks sc (raw.getLsbD sc.toNat) s]
    rfl
  · rw [hcount] at hbelow
    rw [hconfirm, if_neg (by simpa using hbelow), update_withBanks]

/-- Outside the banks, visits of different scancodes push the events of those that are confirmed, in their order. -/
theorem visits_withBanks {scs : List Scancode} (hnodup : scs.Nodup) (keys : Vector Bool Config.N_SLOTS)
    (counters : Vector Byte Config.N_SLOTS) :
    (scs.foldl (visit P raw) s).withBanks keys counters
      = pushAll ((scs.filter (confirms P raw s)).map fun k => levelEvent (raw.getLsbD k.toNat) k)
          (s.withBanks keys counters) := by
  induction scs generalizing s with
  | nil => rfl
  | cons c rest ih =>
    obtain ⟨hfresh, hrest⟩ := List.nodup_cons.1 hnodup
    have hlater : rest.filter (confirms P raw (visit P raw s c)) = rest.filter (confirms P raw s) := by
      refine List.filter_congr fun k hk => ?_
      rw [confirms, confirms, scanCount_visit_of_ne (ne_of_mem_of_not_mem hk hfresh)]
    rw [List.foldl_cons, ih hrest, hlater, visit_withBanks]
    by_cases hconfirms : confirms P raw s c = true <;> simp [hconfirms]

/-- Outside the banks, a scan pushes its events (R81, R89, R161). -/
theorem scanTick_withBanks (keys : Vector Bool Config.N_SLOTS) (counters : Vector Byte Config.N_SLOTS) :
    (scanTick P raw s).withBanks keys counters = pushAll (scanEvents P raw s) (s.withBanks keys counters) :=
  visits_withBanks nodup_validScancodes keys counters

theorem scanTick_steadyAt_of_valid (hvalid : isValid sc = true) :
    (scanTick P raw s).steadyAt sc = if confirms P raw s sc then 0 else s.scanCount raw sc := by
  simp [scanTick_steadyAt, hvalid, afterCheck, confirms]

/-- Pushes depend on the ring storage and the write cursor alone, and write nothing else (R101). -/
theorem pushAll_eq_of_ring_eq {t : State} (es : List Byte) (hmem : s.qMem = t.qMem) (hwr : s.qWr = t.qWr) :
    pushAll es s = { s with qMem := (pushAll es t).qMem, qWr := (pushAll es t).qWr } := by
  induction es generalizing s t with
  | nil => rw [pushAll_nil, pushAll_nil, ← hmem, ← hwr]
  | cons e rest ih =>
    have hmem' : (push e s).qMem = (push e t).qMem := by rw [push_qMem, push_qMem, hmem, hwr]
    have hwr' : (push e s).qWr = (push e t).qWr := by rw [push_qWr, push_qWr, hwr]
    rw [pushAll_cons, pushAll_cons, ih hmem' hwr']
    rfl

/-- A scan is its pushes, with the banks that it leaves. -/
theorem scanTick_eq_pushAll :
    scanTick P raw s
      = (pushAll (scanEvents P raw s) s).withBanks (scanTick P raw s).keyState (scanTick P raw s).steady := by
  have hrest := scanTick_withBanks (P := P) (raw := raw) (s := s) s.keyState s.steady
  rw [State.withBanks_self] at hrest
  rw [← hrest, State.withBanks_withBanks, State.withBanks_self]

/-! ### What a scan depends on -/

theorem keyAt_congr {t : State} (h : s.keyState = t.keyState) (k : Scancode) : s.keyAt k = t.keyAt k := by
  simp only [State.keyAt, h]

theorem steadyAt_congr {t : State} (h : s.steady = t.steady) (k : Scancode) : s.steadyAt k = t.steadyAt k := by
  simp only [State.steadyAt, h]

theorem scanTick_keyState_congr {t : State} {raw' : BitVec 128} (hkeys : s.keyState = t.keyState)
    (hraw : ∀ k, isValid k = true → raw.getLsbD k.toNat = raw'.getLsbD k.toNat) :
    (scanTick P raw s).keyState = (scanTick P raw' t).keyState := by
  refine State.keyState_ext fun k => ?_
  rw [scanTick_keyAt, scanTick_keyAt, keyAt_congr hkeys]
  split
  · exact hraw k ‹_›
  · rfl

section

variable {t : State} {raw' : BitVec 128} (hkeys : s.keyState = t.keyState) (hsteady : s.steady = t.steady)
  (hraw : ∀ k, isValid k = true → raw.getLsbD k.toNat = raw'.getLsbD k.toNat)

include hkeys hsteady hraw

theorem scanCount_congr (hvalid : isValid sc = true) : s.scanCount raw sc = t.scanCount raw' sc := by
  rw [State.scanCount, State.scanCount, keyAt_congr hkeys, steadyAt_congr hsteady, hraw sc hvalid]

/-- The events of a scan depend on the banks and on the levels of VALID (D14; log 16). -/
theorem scanEvents_congr : scanEvents P raw s = scanEvents P raw' t := by
  have hfilter : validScancodes.filter (confirms P raw s) = validScancodes.filter (confirms P raw' t) := by
    refine List.filter_congr fun k hk => ?_
    rw [confirms, confirms, scanCount_congr hkeys hsteady hraw ((mem_validScancodes k).1 hk)]
  rw [scanEvents, hfilter, scanEvents]
  refine List.map_congr_left fun k hk => ?_
  rw [hraw k ((mem_validScancodes k).1 (List.mem_of_mem_filter hk))]

theorem scanTick_steady_congr : (scanTick P raw s).steady = (scanTick P raw' t).steady := by
  refine State.steady_ext fun k => ?_
  rw [scanTick_steadyAt, scanTick_steadyAt, steadyAt_congr hsteady]
  split
  · rw [scanCount_congr hkeys hsteady hraw ‹_›]
  · rfl

/-- A scan reads and writes what the producer owns, and nothing else (R92, R161). -/
theorem scanTick_eq_withProducer (hmem : s.qMem = t.qMem) (hwr : s.qWr = t.qWr) :
    scanTick P raw s = s.withProducer (scanTick P raw' t) := by
  have hevents := scanEvents_congr (P := P) hkeys hsteady hraw
  have hring := pushAll_eq_of_ring_eq (scanEvents P raw' t) hmem hwr
  have hs := scanTick_eq_pushAll (P := P) (raw := raw) (s := s)
  have ht := scanTick_eq_pushAll (P := P) (raw := raw') (s := t)
  rw [hevents, hring, scanTick_keyState_congr hkeys hraw, scanTick_steady_congr hkeys hsteady hraw] at hs
  rw [hs, State.withProducer, congrArg State.qMem ht, congrArg State.qWr ht]
  rfl

end

/-- A scan leaves all that the producer does not own as it was (R92). -/
theorem scanTick_rest : scanTick P raw s = s.withProducer (scanTick P raw s) :=
  scanTick_eq_withProducer rfl rfl (fun _ _ => rfl) rfl rfl

/-- A scan that confirms nothing leaves the queue alone. -/
theorem scanTick_ring_of_scanEvents_nil (h : scanEvents P raw s = []) :
    (scanTick P raw s).qWr = s.qWr ∧ (scanTick P raw s).qMem = s.qMem := by
  rw [scanTick_eq_pushAll, h]
  exact ⟨rfl, rfl⟩

theorem scanEvents_eq_nil (h : ∀ k, isValid k = true → (s.scanCount raw k).toNat ≤ P.steadyThresh.val) :
    scanEvents P raw s = [] := by
  rw [scanEvents, List.map_eq_nil_iff, List.filter_eq_nil_iff]
  intro k hk
  simpa [confirms] using h k ((mem_validScancodes k).1 hk)

/-- A scan of released keys at rest changes nothing (R161). -/
theorem scanTick_of_rest
    (h : ∀ k, isValid k = true → raw.getLsbD k.toNat = false ∧ s.keyAt k = false ∧ s.steadyAt k = 0) :
    scanTick P raw s = s := by
  have hcount : ∀ k, isValid k = true → s.scanCount raw k = 0 := by
    intro k hvalid
    obtain ⟨hraw, hkey, hsteady⟩ := h k hvalid
    rw [State.scanCount, hraw, hkey, hsteady, countedTo_self, if_pos rfl]
  have hkeys : (scanTick P raw s).keyState = s.keyState := by
    refine State.keyState_ext fun k => ?_
    rw [scanTick_keyAt]
    split
    · obtain ⟨hraw, hkey, -⟩ := h k ‹_›
      rw [hraw, hkey]
    · rfl
  have hsteady : (scanTick P raw s).steady = s.steady := by
    refine State.steady_ext fun k => ?_
    rw [scanTick_steadyAt]
    split
    · rw [hcount k ‹_›, (h k ‹_›).2.2, afterCheck, ite_self]
    · rfl
  have hnone : scanEvents P raw s = [] := scanEvents_eq_nil fun k hvalid => by simp [hcount k hvalid]
  obtain ⟨hwr, hmem⟩ := scanTick_ring_of_scanEvents_nil hnone
  rw [scanTick_rest, State.withProducer, hkeys, hsteady, hmem, hwr]

/-! ### Counters grow by at most one a scan -/

theorem toNat_countedTo_le (p candidate : Bool) (n : Byte) : (countedTo p candidate n).toNat ≤ n.toNat + 1 := by
  unfold countedTo
  split_ifs with hedge hidle
  · simp
  · simp
  · rw [BitVec.toNat_add]
    exact Nat.mod_le _ _

theorem toNat_afterCheck_le (P : Config.Params) (n : Byte) : (afterCheck P n).toNat ≤ n.toNat := by
  unfold afterCheck
  split_ifs <;> simp

theorem toNat_scanTick_steadyAt_le (k : Scancode) : ((scanTick P raw s).steadyAt k).toNat ≤ (s.steadyAt k).toNat + 1 := by
  rw [scanTick_steadyAt]
  split_ifs
  · exact (toNat_afterCheck_le P _).trans (toNat_countedTo_le ..)
  · exact Nat.le_succ _

/-- While every counter is at least as many scans below the threshold as there are to come, no event is pushed. -/
theorem scans_ring_of_below {raws : List (BitVec 128)}
    (h : ∀ k, (s.steadyAt k).toNat + raws.length ≤ P.steadyThresh.val) :
    (scans P raws s).qWr = s.qWr ∧ (scans P raws s).qMem = s.qMem := by
  induction raws generalizing s with
  | nil => exact ⟨rfl, rfl⟩
  | cons raw rest ih =>
    simp only [List.length_cons] at h
    have hnone : scanEvents P raw s = [] := by
      refine scanEvents_eq_nil fun k _ => (toNat_countedTo_le ..).trans ?_
      have hk := h k
      omega
    obtain ⟨hwr, hmem⟩ := scanTick_ring_of_scanEvents_nil hnone
    obtain ⟨hwr', hmem'⟩ := ih (s := scanTick P raw s) fun k => by
      have hk := h k
      have hstep := toNat_scanTick_steadyAt_le (P := P) (raw := raw) (s := s) k
      omega
    exact ⟨hwr'.trans hwr, hmem'.trans hmem⟩

/-! ### Bounce -/

theorem scans_concat (before : List (BitVec 128)) : scans P (before ++ [raw]) s = scanTick P raw (scans P before s) := by
  rw [scans, List.foldl_append, List.foldl_cons, List.foldl_nil, scans]

/-- After scans the candidate is the level of the last of them. -/
theorem scans_keyAt (hvalid : isValid sc = true) (raws : List (BitVec 128)) :
    (scans P raws s).keyAt sc = (raws.getLast?.map (·.getLsbD sc.toNat)).getD (s.keyAt sc) := by
  induction raws using List.reverseRecOn with
  | nil => rfl
  | append_singleton before raw _ =>
    rw [scans_concat, scanTick_keyAt, if_pos hvalid, List.getLast?_concat]
    rfl

theorem noLevelLasts_tail {n : Nat} {rest : List (BitVec 128)} (h : noLevelLasts sc n (raw :: rest)) :
    noLevelLasts sc n rest :=
  fun before held after hsplit => h (raw :: before) held after (by rw [hsplit]; rfl)

/-- The scans at the start of a sequence that read `p` do not take a counter past the threshold. -/
def runFits (P : Config.Params) (sc : Scancode) (p : Bool) (n : Nat) (raws : List (BitVec 128)) : Prop :=
  ∀ held after, raws = held ++ after → readsAs sc p held → n + held.length ≤ P.steadyThresh.val

/-- A run that a bounce starts with is one of its levels. -/
theorem runFits_of_noLevelLasts {raws : List (BitVec 128)} (h : noLevelLasts sc P.steadyThresh.val raws) :
    runFits P sc p 0 raws := by
  intro held after hsplit hreads
  rw [Nat.zero_add]
  exact h [] held after hsplit p hreads

/-- One scan of the level leaves a run that is one shorter and a counter that is one larger. -/
theorem runFits_tail {n : Nat} {rest : List (BitVec 128)} (h : runFits P sc p n (raw :: rest))
    (hraw : raw.getLsbD sc.toNat = p) : runFits P sc p (n + 1) rest := by
  intro held after hsplit hreads
  have hfits := h (raw :: held) after (by rw [hsplit]; rfl) (readsAs_cons.2 ⟨hraw, hreads⟩)
  rw [List.length_cons] at hfits
  omega

theorem le_threshold_of_runFits {n : Nat} {raws : List (BitVec 128)} (h : runFits P sc p n raws) :
    n ≤ P.steadyThresh.val :=
  h [] raws rfl (fun _ hmem => absurd hmem List.not_mem_nil)

/-- Bounce gives no event: a counter that is idle, or armed by the run of levels it counts, stays below the threshold. -/
theorem keyEvents_of_noLevelLasts {raws : List (BitVec 128)} (hvalid : isValid sc = true)
    (hbounce : noLevelLasts sc P.steadyThresh.val raws)
    (hquiet : s.steadyAt sc = 0 ∨ runFits P sc (s.keyAt sc) (s.steadyAt sc).toNat raws) :
    keyEvents P sc raws s = List.replicate raws.length [] := by
  induction raws generalizing s with
  | nil => rfl
  | cons raw rest ih =>
    have hkey : (scanTick P raw s).keyAt sc = raw.getLsbD sc.toNat := by rw [scanTick_keyAt, if_pos hvalid]
    have hsteady : (scanTick P raw s).steadyAt sc = afterCheck P (s.scanCount raw sc) := by
      rw [scanTick_steadyAt, if_pos hvalid]
    have hnext : s.scanCount raw sc = 0 ∨ runFits P sc (raw.getLsbD sc.toNat) (s.scanCount raw sc).toNat rest := by
      rw [State.scanCount]
      by_cases hedge : raw.getLsbD sc.toNat = s.keyAt sc
      · rw [hedge, countedTo_self]
        by_cases hidle : s.steadyAt sc = 0
        · exact .inl (if_pos hidle)
        · have hfits := runFits_tail (hquiet.resolve_left hidle) hedge
          rw [if_neg hidle, toNat_add_one_of_le_threshold (Nat.le_of_succ_le (le_threshold_of_runFits hfits))]
          exact .inr hfits
      · rw [countedTo_of_ne hedge]
        exact .inr (runFits_tail (runFits_of_noLevelLasts hbounce) rfl)
    have hbelow : (s.scanCount raw sc).toNat ≤ P.steadyThresh.val := by
      rcases hnext with hidle | hfits
      · simp [hidle]
      · exact le_threshold_of_runFits hfits
    have hkept : afterCheck P (s.scanCount raw sc) = s.scanCount raw sc := if_neg (Nat.not_lt.2 hbelow)
    rw [keyEvents_cons hvalid rfl, ← State.scanCount, if_neg (Nat.not_lt.2 hbelow),
      ih (noLevelLasts_tail hbounce) (by rwa [hkey, hsteady, hkept])]
    rfl

/-- From the other level, `STEADY_THRESH + 1` scans of a level give its event in the last of them. -/
theorem keyEvents_of_edge {raws : List (BitVec 128)} (hvalid : isValid sc = true) (hedge : s.keyAt sc ≠ p)
    (hreads : readsAs sc p raws) (hlength : raws.length = P.steadyThresh.val + 1) :
    keyEvents P sc raws s = List.replicate P.steadyThresh.val [] ++ [[eventByte (!p) sc]] := by
  have harmed := keyEvents_of_armed (quiet := P.steadyThresh.val) (m := 0) hvalid hreads (countedTo_of_ne (Ne.symm hedge) _)
    (by decide) (Nat.add_comm ..) hlength
  rwa [List.replicate_zero, List.append_nil] at harmed

end

/-! ### The statements settled -/

/-- Settles O22: the two cases of a check. -/
theorem confirmPushesTheCandidate : Obligations.ConfirmPushesTheCandidate := by
  intro P sc s
  refine ⟨fun hbelow => ?_, fun hpast => ⟨fun k => confirm_keyAt k, fun k => ?_, ?_⟩⟩ <;>
    obtain ⟨hpast', hconfirm⟩ | ⟨hbelow', hconfirm⟩ := confirm_cases P sc s
  · omega
  · exact hconfirm
  · simp [hconfirm]
  · omega
  · rw [hconfirm, eventByte_eq_ofNat]
    cases s.keyAt sc <;> rfl
  · omega

/-- Settles O23: slot by slot for the banks, and the pushes of the events for the rest. -/
theorem scanTickVisitsSlotsIndependently : Obligations.ScanTickVisitsSlotsIndependently := by
  intro P raw s
  have hrest := scanTick_withBanks (P := P) (raw := raw) (s := s) s.keyState s.steady
  rw [State.withBanks_self, State.withBanks] at hrest
  refine ⟨fun sc hvalid => ⟨?_, ?_⟩, fun sc hvalid => ?_, hrest⟩
  · rw [scanTick_keyAt, if_pos hvalid]
  · exact scanTick_steadyAt_of_valid hvalid
  · rw [scanTick_keyAt, scanTick_steadyAt, hvalid]
    exact ⟨rfl, rfl⟩

/-- Settles O24: the events and the banks of a scan are congruent in what it reads, and its pushes in the ring. -/
theorem scanTickReadsOnlyTheProducersState : Obligations.ScanTickReadsOnlyTheProducersState :=
  fun _ _ _ _ _ hkeys hsteady hmem hwr hraw => scanTick_eq_withProducer hkeys hsteady hraw hmem hwr

/-- Settles O26: the pulse arms the counter and stays short of the threshold, and its reversion is an edge of its own. -/
theorem shortPulseRepeatsTheRestingEvent : Obligations.ShortPulseRepeatsTheRestingEvent := by
  intro P sc rest s pulse back hvalid hkey _ hpulse hsome hshort hback hlength
  have hcount : countedTo (!rest) (s.keyAt sc) (s.steadyAt sc) = 1 := countedTo_of_ne (by simp [hkey]) _
  have hnone : keyEvents P sc pulse s = List.replicate pulse.length [] :=
    keyEvents_eq_replicate_nil_of_idle_or_below hvalid hpulse hcount (.inr (by simp; omega))
  have hedge : (scans P pulse s).keyAt sc ≠ rest := by
    have hne : pulse ≠ [] := List.length_pos_iff.1 hsome
    rw [scans_keyAt hvalid, List.getLast?_eq_some_getLast hne]
    simp [hpulse _ (List.getLast_mem hne)]
  rw [keyEvents_append, hnone, keyEvents_of_edge hvalid hedge hback hlength, List.replicate_add, List.append_assoc]

/-- Settles O27: the bounce confirms nothing and leaves the key at the resting level, so that the level it settles on is an edge. -/
theorem bounceThenSettleGivesOneEvent : Obligations.BounceThenSettleGivesOneEvent := by
  intro P sc p s bounce settled hvalid hkey hidle hbounce hlast hsettled hlength
  have hnone := keyEvents_of_noLevelLasts hvalid hbounce (.inl hidle)
  have hedge : (scans P bounce s).keyAt sc ≠ p := by
    rw [scans_keyAt hvalid]
    cases hend : bounce.getLast? with
    | none => exact hkey
    | some raw => exact hlast raw hend
  rw [keyEvents_append, hnone, keyEvents_of_edge hvalid hedge hsettled hlength, List.replicate_add, List.append_assoc]

/-- Settles O28: INIT leaves each candidate released and each counter idle, so that a pressed level is an edge and a released
one leaves the counter idle. -/
theorem heldKeyIsReportedAfreshAfterInit : Obligations.HeldKeyIsReportedAfreshAfterInit := by
  intro P sc s t raws hvalid hnext
  obtain rfl := Host.Outcome.next.inj ((exec_init_eq_started s).symm.trans hnext)
  have hedge : s.started.keyAt sc ≠ true := by simp
  refine ⟨fun hpressed hlength => keyEvents_of_edge (p := true) hvalid hedge hpressed hlength, fun hreleased => ?_⟩
  have hcount : countedTo false (s.started.keyAt sc) (s.started.steadyAt sc) = 0 := by simp
  exact keyEvents_eq_replicate_nil_of_idle_or_below hvalid hreleased hcount (.inl rfl)

/-- Settles O29: cleared counters are as many scans below the threshold as the threshold says. -/
theorem noEventBeforeTheThresholdScan : Obligations.NoEventBeforeTheThresholdScan := by
  intro P raws s hclear hshort
  refine scans_ring_of_below fun k => ?_
  rw [(hclear k).2]
  simpa using hshort

end Sys2Proof.Machine
end

section
/-! The typematic engine and the processing of events (spec/42_typematic_engine.md, spec/43_caps_lock_latch.md).

The idea: a tick of the engine and the processing of an event are each one record update, whose frame is what the update
leaves out; what they put on the wire and the new countdown, latch and caps-lock state are functions of the old ones. -/

namespace Sys2Proof.Machine

section

variable (P : Config.Params) (ev : Byte) (s : State)

/-! ### A tick of the engine -/

/-- The byte that a tick sends: the latched one in the last tick of the countdown (R117). -/
def State.dueRepeat : List Byte := if s.countdown = 1 then [s.lastByte] else []

/-- The countdown after a tick (R117). -/
def State.tickedCountdown : Byte :=
  if s.countdown = 0 then 0 else if s.countdown = 1 then s.rateTicks else s.countdown - 1

/-- A tick as one update: the output and the countdown, and nothing else. -/
theorem typematicTick_eq :
    typematicTick s = { s with tx := s.tx ++ s.dueRepeat, countdown := s.tickedCountdown } := by
  obtain ⟨hidle, h⟩ | ⟨hlast, h⟩ | ⟨hrunning, h⟩ := typematicTick_cases s <;> rw [h]
  · rw [State.dueRepeat, State.tickedCountdown, if_pos hidle, if_neg (by simp [hidle]), List.append_nil, ← hidle]
  · rw [State.dueRepeat, State.tickedCountdown, if_neg (by simp [hlast]), if_pos hlast, if_pos hlast]
  · have hzero : s.countdown ≠ 0 := by bv_omega
    have hone : s.countdown ≠ 1 := by bv_omega
    rw [State.dueRepeat, State.tickedCountdown, if_neg hzero, if_neg hone, if_neg hone, List.append_nil]

theorem typematicTick_of_idle {s : State} (h : s.countdown = 0) : typematicTick s = s := by
  obtain ⟨-, hidle⟩ | ⟨hlast, -⟩ | ⟨hrunning, -⟩ := typematicTick_cases s
  · exact hidle
  · simp [h] at hlast
  · simp [h] at hrunning

theorem typematicTick_of_last {s : State} (h : s.countdown = 1) :
    typematicTick s = { s with tx := s.tx ++ [s.lastByte], countdown := s.rateTicks } := by
  obtain ⟨hidle, -⟩ | ⟨-, hfired⟩ | ⟨hrunning, -⟩ := typematicTick_cases s
  · simp [h] at hidle
  · exact hfired
  · simp [h] at hrunning

theorem typematicTick_of_running {s : State} (h : 2 ≤ s.countdown.toNat) :
    typematicTick s = { s with countdown := BitVec.ofNat 8 (s.countdown.toNat - 1) } := by
  obtain ⟨hidle, -⟩ | ⟨hlast, -⟩ | ⟨-, hcounts⟩ := typematicTick_cases s
  · simp [hidle] at h
  · simp [hlast] at h
  · have hless : s.countdown - 1 = BitVec.ofNat 8 (s.countdown.toNat - 1) := by bv_omega
    rw [hcounts, hless]

/-! ### Which events are repeat-eligible -/

theorem scRow_evScancode : scRow (evScancode ev) = ev.extractLsb' 4 3 := by
  ext i hi
  simp [scRow, evScancode]

/-- R115, field by field. -/
theorem repeatEligible_iff :
    repeatEligible P ev = true ↔ ev.getLsbD 7 = false ∧ ev.extractLsb' 4 3 ≠ 5 ∧ ev.extractLsb' 0 7 ≠ capsSc P := by
  rw [repeatEligible, isMeta, scRow_evScancode, isCaps]
  simp [evIsUp, evScancode, Config.META_ROW, and_assoc]

/-- What stops the engine: an up event, an event of the meta row, or one of the caps-lock scancode (R116, D9; log 12). -/
theorem repeatEligible_eq_false_iff :
    repeatEligible P ev = false ↔ ev.getLsbD 7 = true ∨ ev.extractLsb' 4 3 = 5 ∨ ev.extractLsb' 0 7 = capsSc P := by
  rw [← Bool.not_eq_true, repeatEligible_iff, not_and_or, not_and_or, Bool.not_eq_false, not_not, not_not]

/-! ### The processing of an event -/

/-- An event byte is fixed by its two fields (R61). -/
theorem eventByte_evIsUp_evScancode : eventByte (evIsUp ev) (evScancode ev) = ev := by
  refine (eq_eventByte_of_toNat ?_).symm
  have hev := ev.isLt
  rw [toNat_evScancode, evIsUp, BitVec.getLsbD, Nat.testBit_eq_decide_div_mod_eq]
  split_ifs with hup <;> rw [decide_eq_true_eq] at hup <;> omega

/-- The event toggles the caps-lock state: a down event of its scancode (R131, R132). -/
def togglesCaps : Bool := isCaps P ev && !evIsUp ev

theorem togglesCaps_iff : togglesCaps P ev = true ↔ ev.toNat = (capsSc P).toNat := by
  refine ⟨fun h => ?_, fun h => ?_⟩
  · simp only [togglesCaps, isCaps, Bool.and_eq_true, beq_iff_eq, Bool.not_eq_true'] at h
    obtain ⟨hcaps, hdown⟩ := h
    rw [← eventByte_evIsUp_evScancode ev, hcaps, hdown, toNat_eventByte]
    exact Nat.zero_add _
  · rw [eq_eventByte_of_toNat (up := false) (h.trans (Nat.zero_add _).symm)]
    simp [togglesCaps]

/-- The latch as one update (R131 to R134). -/
theorem capsLatch_eq :
    capsLatch P ev s = { s with
      tx := s.tx ++ wireBytes P s.capsState ev
      capsState := if togglesCaps P ev then !s.capsState else s.capsState
      ledCaps := if togglesCaps P ev then !s.capsState else s.ledCaps } := by
  obtain ⟨hcaps, hup, h⟩ | ⟨hcaps, hdown, h⟩ | ⟨hother, h⟩ := capsLatch_cases P ev s <;> rw [h]
  · simp [wireBytes, togglesCaps, hcaps, hup, eq_of_beq hcaps]
  · simp [wireBytes, togglesCaps, hcaps, hdown, eq_of_beq hcaps]
  · simp [wireBytes, togglesCaps, hother, ne_of_beq_false hother]

/-- The processing of an event as one update: the latch reads and writes what the engine does not, and the other way round
(R116, R163). -/
theorem processEvent_eq :
    processEvent P ev s = { s with
      tx := s.tx ++ wireBytes P s.capsState ev
      countdown := if repeatEligible P ev then s.delayTicks else 0
      lastByte := if repeatEligible P ev then ev else s.lastByte
      capsState := if togglesCaps P ev then !s.capsState else s.capsState
      ledCaps := if togglesCaps P ev then !s.capsState else s.ledCaps } := by
  rw [processEvent, capsLatch_eq]
  obtain ⟨heligible, h⟩ | ⟨hstops, h⟩ := typematicOnEvent_cases P ev { s with
    tx := s.tx ++ wireBytes P s.capsState ev
    capsState := if togglesCaps P ev then !s.capsState else s.capsState
    ledCaps := if togglesCaps P ev then !s.capsState else s.ledCaps }
  · rw [h, heligible]
    rfl
  · rw [h, hstops]
    rfl

theorem processEvent_tx : (processEvent P ev s).tx = s.tx ++ wireBytes P s.capsState ev := by
  rw [processEvent_eq]

theorem processEvent_countdown : (processEvent P ev s).countdown = if repeatEligible P ev then s.delayTicks else 0 := by
  rw [processEvent_eq]

theorem processEvent_lastByte : (processEvent P ev s).lastByte = if repeatEligible P ev then ev else s.lastByte := by
  rw [processEvent_eq]

theorem processEvent_capsState :
    (processEvent P ev s).capsState = if togglesCaps P ev then !s.capsState else s.capsState := by
  rw [processEvent_eq]

theorem processEvent_ledCaps : (processEvent P ev s).ledCaps = if togglesCaps P ev then !s.capsState else s.ledCaps := by
  rw [processEvent_eq]

/-! ### Caps-lock bytes on the wire -/

/-- Of what an event puts on the wire, the caps-lock byte is that of a toggle: its direction is the logical state (R135). -/
theorem wireBytes_filter_isCaps (capsOn : Bool) :
    (wireBytes P capsOn ev).filter (isCaps P) = if togglesCaps P ev then [eventByte capsOn (capsSc P)] else [] := by
  cases hcaps : isCaps P ev
  · have hne : evScancode ev ≠ capsSc P := ne_of_beq_false hcaps
    simp [wireBytes, togglesCaps, hcaps, hne]
  · have heq : evScancode ev = capsSc P := eq_of_beq hcaps
    cases hup : evIsUp ev <;> simp [wireBytes, togglesCaps, hcaps, heq, hup]

theorem capsPresses_cons (evs : List Byte) :
    capsPresses P (ev :: evs) = (if togglesCaps P ev then 1 else 0) + capsPresses P evs := by
  rw [capsPresses, List.filter_cons, ← togglesCaps]
  cases togglesCaps P ev
  · simp [capsPresses]
  · simp [capsPresses, Nat.add_comm]

theorem processAll_cons (evs : List Byte) : processAll P (ev :: evs) s = processAll P evs (processEvent P ev s) := rfl

end

/-! ### The statements settled -/

/-- Settles O30: the fields of the event say whether it is eligible, and that is which case of the engine it is. -/
theorem eligibleEventsArmAndOthersStop : Obligations.EligibleEventsArmAndOthersStop := by
  intro P ev s
  refine ⟨repeatEligible_iff P ev, fun heligible => ?_, fun hstops => ?_⟩ <;>
    obtain ⟨h, harmed⟩ | ⟨h, hstopped⟩ := typematicOnEvent_cases P ev s
  · exact harmed
  · simp [heligible] at h
  · simp [hstops] at h
  · exact hstopped

/-- Settles O32: the three cases of a tick. -/
theorem typematicTickCountsOrFires : Obligations.TypematicTickCountsOrFires :=
  fun _ => ⟨typematicTick_of_idle, typematicTick_of_last, typematicTick_of_running⟩

/-- Settles O34, by induction on the events: a toggle puts the byte of the old state on the wire and leaves the state flipped, which
is how `alternating` goes on; any other event leaves all three as they are. -/
theorem capsPressesAlternateOnTheWire : Obligations.CapsPressesAlternateOnTheWire := by
  intro P evs s
  induction evs generalizing s with
  | nil => exact ⟨by simp [processAll, capsPresses, alternating], by simp [processAll, capsPresses], id⟩
  | cons ev rest ih =>
    obtain ⟨htx, hcaps, hled⟩ := ih (processEvent P ev s)
    have hparity : ∀ n, decide ((1 + n) % 2 = 1) = !decide (n % 2 = 1) := by
      intro n
      rw [← decide_not, decide_eq_decide]
      omega
    rw [processAll_cons, capsPresses_cons]
    refine ⟨?_, ?_, fun hshown => hled ?_⟩
    · rw [htx, processEvent_tx, List.filter_append, wireBytes_filter_isCaps, processEvent_capsState, List.append_assoc]
      cases togglesCaps P ev
      · simp
      · rw [if_pos rfl, if_pos rfl, if_pos rfl, Nat.add_comm]
        rfl
    · rw [hcaps, processEvent_capsState]
      cases togglesCaps P ev <;> simp [hparity]
    · rw [processEvent_ledCaps, processEvent_capsState, hshown]

end Sys2Proof.Machine
end

section
/-! The loop tick (spec/45_core_step.md): what it sends, what it does to the engine, the queue and the latch, its frame, and
how it fits with the scan tick.

The idea: the first two sub-steps are one update of six elements, of which there are two cases, an empty queue and the
processing of the byte at `q_rd`; the command after them is a patch of five other elements, or INIT. -/

namespace Sys2Proof.Machine

section

variable (P : Config.Params) (s : State)

/-! ### The countdown and the pop -/

@[simp] theorem typematicTick_keyState : (typematicTick s).keyState = s.keyState := by rw [typematicTick_eq]
@[simp] theorem typematicTick_steady : (typematicTick s).steady = s.steady := by rw [typematicTick_eq]
@[simp] theorem typematicTick_qWr : (typematicTick s).qWr = s.qWr := by rw [typematicTick_eq]
@[simp] theorem typematicTick_qRd : (typematicTick s).qRd = s.qRd := by rw [typematicTick_eq]
@[simp] theorem typematicTick_delayTicks : (typematicTick s).delayTicks = s.delayTicks := by rw [typematicTick_eq]
@[simp] theorem typematicTick_lastByte : (typematicTick s).lastByte = s.lastByte := by rw [typematicTick_eq]
@[simp] theorem typematicTick_capsState : (typematicTick s).capsState = s.capsState := by rw [typematicTick_eq]
@[simp] theorem typematicTick_ledCaps : (typematicTick s).ledCaps = s.ledCaps := by rw [typematicTick_eq]
@[simp] theorem typematicTick_tx : (typematicTick s).tx = s.tx ++ s.dueRepeat := by rw [typematicTick_eq]
@[simp] theorem typematicTick_ringRead (a : Cursor) : (typematicTick s).ringRead a = s.ringRead a := by
  rw [typematicTick_eq]
  rfl

variable {s}

theorem popAndProcess_of_ne (h : s.qWr ≠ s.qRd) :
    popAndProcess P s = processEvent P (s.ringRead s.qRd) (s.setQRd (advance s.qRd)) := by
  obtain ⟨heq, -⟩ | ⟨-, hpop⟩ := popAndProcess_cases P s
  · exact absurd heq h
  · exact hpop

/-- With an empty queue the first two sub-steps are the tick of the engine. -/
theorem loopFront_of_eq (h : s.qWr = s.qRd) : loopFront P s = typematicTick s := by
  rw [loopFront]
  obtain ⟨-, hnone⟩ | ⟨hne, -⟩ := popAndProcess_cases P (typematicTick s)
  · exact hnone
  · simp [h] at hne

/-- With an event queued they are the tick and then the processing of the byte at `q_rd`, with `q_rd` moved on. -/
theorem loopFront_of_ne (h : s.qWr ≠ s.qRd) :
    loopFront P s = processEvent P (s.ringRead s.qRd) ((typematicTick s).setQRd (advance s.qRd)) := by
  rw [loopFront, popAndProcess_of_ne P (by simpa using h), typematicTick_ringRead, typematicTick_qRd]

variable (s)

/-- They write six elements at most (R117, R103, R163). -/
theorem loopFront_rest :
    { loopFront P s with
      qRd := s.qRd, tx := s.tx, countdown := s.countdown, lastByte := s.lastByte
      capsState := s.capsState, ledCaps := s.ledCaps } = s := by
  by_cases h : s.qWr = s.qRd
  · rw [loopFront_of_eq P h, typematicTick_eq]
  · rw [loopFront_of_ne P h, processEvent_eq, typematicTick_eq]
    rfl

@[simp] theorem loopFront_pending : (loopFront P s).pending = s.pending := (congrArg State.pending (loopFront_rest P s) :)

theorem loopFront_tx :
    (loopFront P s).tx
      = s.tx ++ s.dueRepeat ++ (if s.qWr = s.qRd then [] else wireBytes P s.capsState (s.ringRead s.qRd)) := by
  by_cases h : s.qWr = s.qRd
  · rw [loopFront_of_eq P h, typematicTick_tx, if_pos h, List.append_nil]
  · rw [loopFront_of_ne P h, processEvent_tx, State.setQRd_tx, State.setQRd_capsState, typematicTick_tx,
      typematicTick_capsState, if_neg h]

variable {s}

theorem loopFront_countdown_of_ne (h : s.qWr ≠ s.qRd) :
    (loopFront P s).countdown = if repeatEligible P (s.ringRead s.qRd) then s.delayTicks else 0 := by
  rw [loopFront_of_ne P h, processEvent_countdown, State.setQRd_delayTicks, typematicTick_delayTicks]

theorem loopFront_lastByte_of_ne (h : s.qWr ≠ s.qRd) :
    (loopFront P s).lastByte = if repeatEligible P (s.ringRead s.qRd) then s.ringRead s.qRd else s.lastByte := by
  rw [loopFront_of_ne P h, processEvent_lastByte, State.setQRd_lastByte, typematicTick_lastByte]

theorem loopFront_capsState_of_ne (h : s.qWr ≠ s.qRd) :
    (loopFront P s).capsState = if togglesCaps P (s.ringRead s.qRd) then !s.capsState else s.capsState := by
  rw [loopFront_of_ne P h, processEvent_capsState, State.setQRd_capsState, typematicTick_capsState]

theorem loopFront_ledCaps_of_ne (h : s.qWr ≠ s.qRd) :
    (loopFront P s).ledCaps = if togglesCaps P (s.ringRead s.qRd) then !s.capsState else s.ledCaps := by
  rw [loopFront_of_ne P h, processEvent_ledCaps, State.setQRd_capsState, State.setQRd_ledCaps, typematicTick_capsState,
    typematicTick_ledCaps]

theorem loopFront_qRd_of_ne (h : s.qWr ≠ s.qRd) : (loopFront P s).qRd = advance s.qRd := by
  rw [loopFront_of_ne P h, processEvent_eq]
  rfl

/-- The entries that a loop tick leaves unread are those behind the one it takes. -/
theorem loopFront_unread_of_ne (h : s.qWr ≠ s.qRd) : (loopFront P s).unread = (s.setQRd (advance s.qRd)).unread := by
  rw [loopFront_of_ne P h, processEvent_eq, typematicTick_eq]
  rfl

end

/-! ### The command -/

/-- What the received byte writes, if it is not INIT. -/
def rxPatch : Option Byte → Patch
  | none => {}
  | some b => patchOf (decodeByte b)

theorem commandStep_eq_apply {rx : Option Byte} (h : rx ≠ some 0x06) (s : State) :
    commandStep rx s = .next ((rxPatch rx).apply s) := by
  cases rx with
  | none => rfl
  | some b =>
    refine exec_eq_apply (fun hinit => h ?_) s
    rw [(decodeByte_eq_init_iff b).1 hinit]

theorem commandStep_init (s : State) : commandStep (some 0x06) s = .next s.started := exec_init_eq_started s

theorem loopTick_eq_apply (P : Config.Params) {rx : Option Byte} (h : rx ≠ some 0x06) (s : State) :
    loopTick P rx s = .next ((rxPatch rx).apply (loopFront P s)) := commandStep_eq_apply h _

theorem loopTick_init (P : Config.Params) (s : State) : loopTick P (some 0x06) s = .next (loopFront P s).started :=
  commandStep_init _

/-- Every command completes and sends nothing (R153). -/
theorem commandStep_next (rx : Option Byte) (s : State) : ∃ t, commandStep rx s = .next t ∧ t.tx = s.tx := by
  by_cases h : rx = some 0x06
  · exact ⟨s.started, h ▸ commandStep_init s, rfl⟩
  · exact ⟨_, commandStep_eq_apply h s, rfl⟩

theorem ne_init_byte {rx : Option Byte} (h : rx.map decodeByte ≠ some .init) : rx ≠ some 0x06 := by
  rintro rfl
  exact h rfl

/-! ### A scan tick beside the consumer -/

/-- A block of the consumer: what it does is the same whatever the producer owns, and it leaves that alone (R26, R107). -/
def IgnoresProducer (f : State → State) : Prop := ∀ s t, f (s.withProducer t) = (f s).withProducer t

theorem typematicTick_ignoresProducer : IgnoresProducer typematicTick := by
  intro s t
  rw [typematicTick_eq, typematicTick_eq]
  rfl

theorem processEvent_ignoresProducer (P : Config.Params) (ev : Byte) : IgnoresProducer (processEvent P ev) := by
  intro s t
  rw [processEvent_eq, processEvent_eq]
  rfl

theorem setQRd_ignoresProducer (c : Cursor) : IgnoresProducer (·.setQRd c) := fun _ _ => rfl

theorem apply_ignoresProducer (p : Patch) : IgnoresProducer p.apply := fun _ _ => rfl

/-- Such a block and a scan tick commute: the scan depends on what the producer owns alone and writes nothing else (R45, R46). -/
theorem IgnoresProducer.scanTick_comm {f : State → State} (hf : IgnoresProducer f) (P : Config.Params) (raw : BitVec 128)
    (s : State) : scanTick P raw (f s) = f (scanTick P raw s) := by
  have hown : f s = (f s).withProducer s := hf s s
  calc scanTick P raw (f s)
      = (f s).withProducer (scanTick P raw s) :=
        scanTick_eq_withProducer (congrArg State.keyState hown :) (congrArg State.steady hown :) (fun _ _ => rfl)
          (congrArg State.qMem hown :) (congrArg State.qWr hown :)
    _ = f (s.withProducer (scanTick P raw s)) := (hf s _).symm
    _ = f (scanTick P raw s) := by rw [← scanTick_rest]

section

variable (P : Config.Params) {raw : BitVec 128} {s : State}

theorem scanTick_qRd : (scanTick P raw s).qRd = s.qRd := by
  rw [scanTick_rest]
  rfl

theorem State.withBanks_unread (s : State) (keys : Vector Bool Config.N_SLOTS) (counters : Vector Byte Config.N_SLOTS) :
    (s.withBanks keys counters).unread = s.unread := rfl

/-- With room for its events a scan adds them to the unread entries. -/
theorem scanTick_unread (hroom : s.occupancy + (scanEvents P raw s).length ≤ 15) :
    (scanTick P raw s).unread = s.unread ++ scanEvents P raw s := by
  rw [scanTick_eq_pushAll, State.withBanks_unread, unread_pushAll_of_le hroom]

/-- So a pop after the scan takes the byte that it takes before. -/
theorem scanTick_head (hne : s.qWr ≠ s.qRd) (hroom : s.occupancy + (scanEvents P raw s).length ≤ 15) :
    (scanTick P raw s).qWr ≠ (scanTick P raw s).qRd
      ∧ (scanTick P raw s).ringRead (scanTick P raw s).qRd = s.ringRead s.qRd := by
  have hunread := scanTick_unread P hroom
  rw [unread_of_ne hne, List.cons_append] at hunread
  have hne' : (scanTick P raw s).qWr ≠ (scanTick P raw s).qRd := by
    intro heq
    rw [State.unread_of_eq heq] at hunread
    cases hunread
  rw [unread_of_ne hne'] at hunread
  exact ⟨hne', (List.cons.inj hunread).1⟩

theorem popAndProcess_scanTick (hne : s.qWr ≠ s.qRd) (hroom : s.occupancy + (scanEvents P raw s).length ≤ 15) :
    popAndProcess P (scanTick P raw s) = scanTick P raw (popAndProcess P s) := by
  obtain ⟨hne', hhead⟩ := scanTick_head P hne hroom
  rw [popAndProcess_of_ne P hne', popAndProcess_of_ne P hne, hhead, scanTick_qRd,
    (processEvent_ignoresProducer P _).scanTick_comm, (setQRd_ignoresProducer _).scanTick_comm]

theorem loopFront_scanTick (hne : s.qWr ≠ s.qRd) (hroom : s.occupancy + (scanEvents P raw s).length ≤ 15) :
    loopFront P (scanTick P raw s) = scanTick P raw (loopFront P s) := by
  have hevents : scanEvents P raw (typematicTick s) = scanEvents P raw s :=
    scanEvents_congr (typematicTick_keyState s) (typematicTick_steady s) (fun _ _ => rfl)
  have hocc : (typematicTick s).occupancy = s.occupancy :=
    State.occupancy_congr (typematicTick_qWr s) (typematicTick_qRd s)
  rw [loopFront, ← typematicTick_ignoresProducer.scanTick_comm, popAndProcess_scanTick P (by simpa using hne)
    (by rwa [hevents, hocc]), loopFront]

end

/-! ### Steps -/

theorem step_of_pending_cons {s : State} {ev : Stimulus} {rest : List Stimulus} (h : s.pending = ev :: rest) :
    step s = respond Config.device ev { s with pending := rest } := by
  rw [step, stepWith, takeStimulus_cons h]

theorem step_of_pending_nil {s : State} (h : s.pending = []) :
    step s = respond Config.device (Config.environment s.envIndex) { s with envIndex := s.envIndex + 1 } := by
  rw [step, stepWith, takeStimulus_nil h]

theorem respond_next (P : Config.Params) (ev : Stimulus) (s : State) : ∃ t, respond P ev s = .next t := by
  cases ev with
  | scanTick raw => exact ⟨_, rfl⟩
  | loopTick rx =>
    obtain ⟨t, hnext, -⟩ := commandStep_next rx (loopFront P s)
    exact ⟨t, hnext⟩
  | reset => exact ⟨_, rfl⟩

/-! ### The statements settled -/

/-- Settles O35: the output of the first two sub-steps, to which the command adds nothing. -/
theorem loopTickSendsRepeatThenEvent : Obligations.LoopTickSendsRepeatThenEvent := by
  intro P rx s
  obtain ⟨t, hnext, htx⟩ := commandStep_next rx (loopFront P s)
  exact ⟨t, hnext, htx.trans (loopFront_tx P s)⟩

/-- Settles O36: the event is processed with the old delay before SET_DELAY writes the new one, and is sent before INIT clears. -/
theorem commandActsAfterTheEventOfItsTick : Obligations.CommandActsAfterTheEventOfItsTick := by
  intro P s hne
  refine ⟨fun heligible v => ⟨(loopFront P s).setDelayTicks (scaledTicks v), ?_, ?_, ?_, toNat_scaledTicks v⟩,
    fun hother => ⟨_, loopTick_init P s, ?_, rfl, State.unread_of_eq rfl, rfl⟩⟩
  · rw [loopTick, commandStep, decodeByte_of_delay (commandType_append 0b01#2 v), commandValue_append, exec_setDelay]
  · rw [State.setDelayTicks_countdown, loopFront_countdown_of_ne P hne, if_pos heligible]
  · rw [State.setDelayTicks_lastByte, loopFront_lastByte_of_ne P hne, if_pos heligible]
  · have hwire : wireBytes P s.capsState (s.ringRead s.qRd) = [s.ringRead s.qRd] := if_neg (ne_of_beq_false hother)
    rw [State.started_tx, loopFront_tx, if_neg hne, hwire, typematicTick_tx]

/-- Settles O37: the tick of an idle engine, and a scan of keys at rest. -/
theorem idleStepsChangeNothing : Obligations.IdleStepsChangeNothing := by
  intro P s
  refine ⟨fun hempty hidle => ?_, fun raw hrest => scanTick_of_rest hrest⟩
  rw [loopTick_eq_apply P (by simp), loopFront_of_eq P hempty, typematicTick_of_idle hidle]
  rfl

/-- Settles O38: each block of the consumer but the pop ignores what the producer owns, and with an event queued and room for
the scan's events the pop takes the same byte before and after the scan. -/
theorem scanTickInsideALoopTickIsOneAtItsEnd : Obligations.ScanTickInsideALoopTickIsOneAtItsEnd := by
  intro P raw s
  refine ⟨?_, fun ev => ?_, fun rx hrx => ?_, fun hne hroom rx hrx => ?_⟩
  · rw [loopFront, typematicTick_ignoresProducer.scanTick_comm]
  · rw [(processEvent_ignoresProducer P ev).scanTick_comm]
  · refine ⟨_, commandStep_eq_apply (ne_init_byte hrx) s, ?_⟩
    rw [commandStep_eq_apply (ne_init_byte hrx), (apply_ignoresProducer _).scanTick_comm]
  · refine ⟨_, loopTick_eq_apply P (ne_init_byte hrx) s, ?_⟩
    rw [loopTick_eq_apply P (ne_init_byte hrx), loopFront_scanTick P hne hroom, (apply_ignoresProducer _).scanTick_comm]

/-- Settles O39: neither the first two sub-steps nor a patch write what is named. -/
theorem loopTickButInitKeepsTheProducersState : Obligations.LoopTickButInitKeepsTheProducersState := by
  intro P rx s t hrx hnext
  obtain rfl := Host.Outcome.next.inj ((loopTick_eq_apply P hrx s).symm.trans hnext)
  have hrest := loopFront_rest P s
  exact ⟨(congrArg State.keyState hrest :), (congrArg State.steady hrest :), (congrArg State.qMem hrest :),
    (congrArg State.qWr hrest :), (congrArg State.epoch hrest :), fun a => (congrArg (·.ringRead a) hrest :)⟩

/-- Settles O40: the response to every stimulus is a next state. -/
theorem everyStepAnswersANextState : Obligations.EveryStepAnswersANextState :=
  fun s => respond_next Config.device s.takeStimulus.1 s.takeStimulus.2

/-- Settles O41: the step is the loop tick of that byte. -/
theorem stepRunsTheDecodedCommand : Obligations.StepRunsTheDecodedCommand := by
  intro s b i rest hpending hdecode
  obtain ⟨c, hc, hi⟩ := (decode_eq_ok_iff [b] [] i).1 hdecode
  obtain ⟨rfl, -⟩ := List.cons.inj hc
  rw [step_of_pending_cons hpending, ← hi]
  rfl

/-- Settles O42: the stimulus taken, and the response to each of the three. -/
theorem stepActsOnTheNextStimulus : Obligations.StepActsOnTheNextStimulus := by
  refine ⟨fun s ev rest => ⟨step_of_pending_cons, step_of_pending_nil⟩, fun P raw rx s => ⟨rfl, rfl, rfl⟩,
    fun s raw rest => ⟨fun h => ?_, fun h => ?_⟩⟩
  · rw [step_of_pending_cons h, respond]
  · rw [step_of_pending_cons h, respond]
    exact ⟨rfl, rfl⟩

/-- Settles O48: the engine is told of every processed event, and a patch leaves it alone. -/
theorem everyPoppedEventReachesTheEngine : Obligations.EveryPoppedEventReachesTheEngine := by
  intro P s
  refine ⟨fun ev => ⟨fun heligible => ?_, fun hstops => ?_⟩,
    fun rx hrx => ⟨_, loopTick_eq_apply P hrx s, fun hne heligible => ?_, fun hne hstops => ?_, fun hempty => ?_⟩⟩
  · rw [processEvent_countdown, processEvent_lastByte, if_pos heligible, if_pos heligible]
    exact ⟨rfl, rfl⟩
  · rw [processEvent_countdown, processEvent_lastByte, (repeatEligible_eq_false_iff P ev).2 hstops]
    exact ⟨rfl, rfl⟩
  · have hcountdown := loopFront_countdown_of_ne P hne
    have hlatch := loopFront_lastByte_of_ne P hne
    rw [if_pos heligible] at hcountdown hlatch
    exact ⟨hcountdown, hlatch⟩
  · have hcountdown := loopFront_countdown_of_ne P hne
    have hlatch := loopFront_lastByte_of_ne P hne
    rw [hstops] at hcountdown hlatch
    exact ⟨hcountdown, hlatch⟩
  · rw [loopFront_of_eq P hempty]
    exact ⟨rfl, typematicTick_lastByte s⟩

/-- Settles O49: an empty queue leaves the cursor and the latch, any other gives its head to the latch. -/
theorem loopTickTakesOneEventOffTheQueue : Obligations.LoopTickTakesOneEventOffTheQueue := by
  intro P rx s hrx
  refine ⟨_, loopTick_eq_apply P hrx s, fun hempty => ?_, fun hne => ⟨?_, ?_, fun hcaps => ?_, fun hother => ?_⟩⟩
  · rw [loopFront_of_eq P hempty]
    exact ⟨typematicTick_qRd s, State.unread_of_eq (by simpa [Patch.apply] using hempty), typematicTick_capsState s,
      typematicTick_ledCaps s⟩
  · exact congrArg Fin.val (loopFront_qRd_of_ne P hne)
  · rw [unread_of_ne hne, ← loopFront_unread_of_ne P hne]
    rfl
  · have htoggles := (togglesCaps_iff P _).2 hcaps
    exact ⟨(loopFront_capsState_of_ne P hne).trans (if_pos htoggles),
      (loopFront_ledCaps_of_ne P hne).trans (if_pos htoggles)⟩
  · have hkeeps := mt (togglesCaps_iff P _).1 hother
    exact ⟨(loopFront_capsState_of_ne P hne).trans (if_neg hkeeps),
      (loopFront_ledCaps_of_ne P hne).trans (if_neg hkeeps)⟩

/-- Settles O50: without a byte a loop tick is its first two sub-steps. -/
theorem loopTickWithoutCommandKeepsTheRest : Obligations.LoopTickWithoutCommandKeepsTheRest :=
  fun P s => ⟨loopFront P s, rfl, fun _ => rfl, loopFront_rest P s⟩

end Sys2Proof.Machine
end

section
/-! Auto-repeat over many steps (spec/42_typematic_engine.md R117 to R124).

The idea: while the queue is empty and no byte comes, a step is a tick of the engine, so k steps are the k-th iterate of the
tick. Up to its firing the iterate counts down; from there on, j ticks later, the countdown is the rate less j modulo the
rate, and the whole periods in j are the repeats sent. -/

namespace Sys2Proof.Machine

section

variable {s : State}

/-! ### Ticks of the engine -/

theorem iterate_tick_of_idle (h : s.countdown = 0) (k : Nat) : typematicTick^[k] s = s :=
  Function.iterate_fixed (typematicTick_of_idle h) k

/-- Before the countdown runs out, ticks count it down. -/
theorem iterate_tick_of_lt {k : Nat} (h : k < s.countdown.toNat) :
    typematicTick^[k] s = { s with countdown := BitVec.ofNat 8 (s.countdown.toNat - k) } := by
  have hbyte := s.countdown.isLt
  induction k with
  | zero => simp
  | succ k ih =>
    have hleft : (BitVec.ofNat 8 (s.countdown.toNat - k)).toNat = s.countdown.toNat - k := by
      rw [BitVec.toNat_ofNat, Nat.mod_eq_of_lt (by omega)]
    rw [Function.iterate_succ_apply', ih (by omega), typematicTick_of_running (by rw [hleft]; omega), hleft, Nat.sub_sub]

/-- The state right after the engine has fired (R117). -/
def State.fired (s : State) : State := { s with tx := s.tx ++ [s.lastByte], countdown := s.rateTicks }

/-- A countdown of n fires in its n-th tick. -/
theorem iterate_tick_countdown (h : s.countdown ≠ 0) : typematicTick^[s.countdown.toNat] s = s.fired := by
  obtain ⟨n, hn⟩ : ∃ n, s.countdown.toNat = n + 1 := ⟨s.countdown.toNat - 1, by bv_omega⟩
  rw [hn, Function.iterate_succ_apply', iterate_tick_of_lt (by omega), hn, Nat.add_sub_cancel_left,
    typematicTick_of_last rfl]
  rfl

/-- One more than `j` is one period more, at its start, where `j` is at the end of one, and else one tick further in it. -/
theorem succ_div_mod {r : Nat} (hr : 0 < r) (j : Nat) :
    (j % r + 1 = r ∧ (j + 1) / r = j / r + 1 ∧ (j + 1) % r = 0)
      ∨ (j % r + 1 < r ∧ (j + 1) / r = j / r ∧ (j + 1) % r = j % r + 1) := by
  have hlt := Nat.mod_lt j hr
  have hsum := Nat.mod_add_div j r
  rcases Nat.lt_or_eq_of_le (Nat.succ_le_of_lt hlt) with hin | hend
  · exact .inr ⟨hin, (Nat.div_mod_unique hr).2 ⟨by omega, hin⟩⟩
  · refine .inl ⟨hend, (Nat.div_mod_unique hr).2 ⟨?_, hr⟩⟩
    rw [Nat.mul_succ]
    omega

/-- `j` ticks after it fires, the engine has sent one byte more for each whole period in `j`. -/
theorem iterate_tick_fired (hrate : s.rateTicks ≠ 0) (j : Nat) :
    typematicTick^[j] s.fired = { s with
      tx := s.tx ++ List.replicate (1 + j / s.rateTicks.toNat) s.lastByte
      countdown := BitVec.ofNat 8 (s.rateTicks.toNat - j % s.rateTicks.toNat) } := by
  have hbyte := s.rateTicks.isLt
  have hr : 0 < s.rateTicks.toNat := by bv_omega
  induction j with
  | zero => simp [State.fired]
  | succ j ih =>
    have hlt := Nat.mod_lt j hr
    have hleft : (BitVec.ofNat 8 (s.rateTicks.toNat - j % s.rateTicks.toNat)).toNat
        = s.rateTicks.toNat - j % s.rateTicks.toNat := by
      rw [BitVec.toNat_ofNat, Nat.mod_eq_of_lt (by omega)]
    rw [Function.iterate_succ_apply', ih]
    obtain ⟨hend, hdiv, hmod⟩ | ⟨hin, hdiv, hmod⟩ := succ_div_mod hr j
    · have hone : s.rateTicks.toNat - j % s.rateTicks.toNat = 1 := by omega
      rw [typematicTick_of_last (by rw [hone]; rfl), hdiv, hmod, ← Nat.add_assoc, List.replicate_succ']
      simp
    · rw [typematicTick_of_running (by rw [hleft]; omega), hleft, hdiv, hmod, Nat.sub_sub]

/-- With a rate of 0 the engine is idle once it has fired (R119). -/
theorem iterate_tick_fired_of_rate_zero (hrate : s.rateTicks = 0) (j : Nat) : typematicTick^[j] s.fired = s.fired :=
  iterate_tick_of_idle hrate j

/-! ### Steps with an empty queue -/

/-- A state with other stimuli placed. -/
def State.withPending (s : State) (pending : List Stimulus) : State := { s with pending := pending }

@[simp] theorem State.withPending_withPending (s : State) (pending pending' : List Stimulus) :
    (s.withPending pending).withPending pending' = s.withPending pending' := rfl

theorem typematicTick_withPending (pending : List Stimulus) :
    typematicTick (s.withPending pending) = (typematicTick s).withPending pending := by
  rw [typematicTick_eq, typematicTick_eq]
  rfl

theorem step_loopTick_none {rest : List Stimulus} (h : s.pending = .loopTick none :: rest) :
    step s = .next (loopFront Config.device (s.withPending rest)) := by
  rw [step_of_pending_cons h]
  rfl

theorem stepTimes_succ {t : State} (h : step s = .next t) (k : Nat) : stepTimes (k + 1) s = stepTimes k t := by
  rw [stepTimes, h]

/-- Loop ticks without a byte on an empty queue are ticks of the engine. -/
theorem stepTimes_of_empty {k : Nat} {rest : List Stimulus} (hempty : s.qWr = s.qRd)
    (hpending : s.pending = List.replicate k (.loopTick none) ++ rest) :
    stepTimes k s = .next (typematicTick^[k] (s.withPending rest)) := by
  induction k generalizing s with
  | zero =>
    obtain rfl : s.pending = rest := hpending
    rfl
  | succ k ih =>
    rw [List.replicate_succ, List.cons_append] at hpending
    generalize hplaced : List.replicate k (Stimulus.loopTick none) ++ rest = placed at hpending
    have hfront : loopFront Config.device (s.withPending placed) = (typematicTick s).withPending placed :=
      (loopFront_of_eq Config.device (s := s.withPending placed) hempty).trans (typematicTick_withPending placed)
    have hempty' : (typematicTick s).qWr = (typematicTick s).qRd := by rwa [typematicTick_qWr, typematicTick_qRd]
    rw [stepTimes_succ (step_loopTick_none hpending), hfront,
      ih (s := (typematicTick s).withPending placed) hempty' hplaced.symm, State.withPending_withPending,
      Function.iterate_succ_apply, typematicTick_withPending]

end

/-! ### The statements settled -/

/-- Settles O31: the k-th iterate of the tick, before the countdown runs out and after it. -/
theorem repeatsFollowTheConfiguredCadence : Obligations.RepeatsFollowTheConfiguredCadence := by
  intro k s rest hempty hpending
  rw [stepTimes_of_empty hempty hpending]
  have hafter : s.countdown ≠ 0 → s.countdown.toNat ≤ k →
      typematicTick^[k] (s.withPending rest) = typematicTick^[k - s.countdown.toNat] (s.withPending rest).fired := by
    intro harmed hdue
    rw [← iterate_tick_countdown (s := s.withPending rest) harmed, ← Function.iterate_add_apply]
    exact congrArg (typematicTick^[·] _) (Nat.sub_add_cancel hdue).symm
  refine ⟨fun hidle => ?_, fun hbefore => ?_, fun harmed hdue hrate => ?_, fun harmed hdue hrate => ?_⟩
  · exact congrArg _ (iterate_tick_of_idle (s := s.withPending rest) hidle k)
  · exact congrArg _ (iterate_tick_of_lt (s := s.withPending rest) hbefore)
  · rw [hafter harmed hdue]
    exact congrArg _ (iterate_tick_fired (s := s.withPending rest) hrate _)
  · rw [hafter harmed hdue, ← hrate]
    exact congrArg _ (iterate_tick_fired_of_rate_zero (s := s.withPending rest) hrate _)

theorem ne_of_occupancy_eq_one {s : State} (h : s.occupancy = 1) : s.qWr ≠ s.qRd :=
  mt s.occupancy_eq_zero_iff.2 (by rw [h]; decide)

/-- The pop of the only event leaves an empty queue. -/
theorem loopFront_empties (P : Config.Params) {s : State} (h : s.occupancy = 1) :
    (loopFront P s).qWr = (loopFront P s).qRd := by
  have hne := ne_of_occupancy_eq_one h
  rw [← State.occupancy_eq_zero_iff, ← State.unread_length, loopFront_unread_of_ne P hne, State.unread_length,
    setQRd_occupancy hne, h]

/-- Settles O51: the event stops the engine and leaves the queue empty, and the ticks of an idle engine change nothing. -/
theorem noRepeatFollowsAStoppingEvent : Obligations.NoRepeatFollowsAStoppingEvent := by
  intro k s rest hpending hone hstops
  have hne := ne_of_occupancy_eq_one hone
  generalize hplaced : List.replicate k (Stimulus.loopTick none) ++ rest = placed at hpending
  have hidle : (loopFront Config.device (s.withPending placed)).countdown = 0 :=
    (loopFront_countdown_of_ne Config.device (s := s.withPending placed) hne).trans (if_neg (Bool.eq_false_iff.1 hstops))
  have hempty := loopFront_empties Config.device (s := s.withPending placed) hone
  have hrest := (loopFront_pending Config.device (s.withPending placed)).trans hplaced.symm
  refine ⟨_, step_loopTick_none hpending, hidle, ?_⟩
  rw [stepTimes_of_empty hempty hrest]
  exact congrArg _ (iterate_tick_of_idle (s := (loopFront Config.device (s.withPending placed)).withPending rest) hidle k)

end Sys2Proof.Machine
end

section
/-! The invariant (spec/10_state.md R30): it holds at reset, every step keeps it, and it bounds what a step sends.

The idea: the invariant has three parts that different blocks write, the ring and its unread entries, the banks, and the
engine with its parameters. So each operation has one lemma, and a step is put together from these. -/

namespace Sys2Proof.Machine

section

variable {P : Config.Params} {s : State}

/-! ### The producer's operations -/

/-- A push of an event of a key that exists. -/
theorem Inv.push (h : Inv P s) {e : Byte} (he : isValid (evScancode e) = true) : Inv P (push e s) where
  __ := h
  ringForm := Memory.wf_write s.qWr e h.ringForm
  unreadWritten := by
    intro k hk
    rw [push_occupancy] at hk
    rw [push_slotAfter, push_qMem, Memory.lookup_write]
    by_cases hlast : k = s.occupancy
    · rw [hlast, State.slotAfter_occupancy, if_pos rfl]
      exact ⟨e, rfl, he⟩
    · have hold : k < s.occupancy := by omega
      rw [if_neg (fun hval => State.slotAfter_ne_qWr hold (Fin.ext hval))]
      exact h.unreadWritten k hold

theorem Inv.pushAll (h : Inv P s) {es : List Byte} (hes : ∀ e ∈ es, isValid (evScancode e) = true) :
    Inv P (pushAll es s) := by
  induction es generalizing s with
  | nil => exact h
  | cons e rest ih =>
    obtain ⟨he, hrest⟩ := List.forall_mem_cons.1 hes
    exact ih (h.push he) hrest

/-- A write of the banks that keeps the counters within the threshold and the slots outside VALID at rest. -/
theorem Inv.withBanks (h : Inv P s) {keys : Vector Bool Config.N_SLOTS} {counters : Vector Byte Config.N_SLOTS}
    (hbound : ∀ sc, ((s.withBanks keys counters).steadyAt sc).toNat ≤ P.steadyThresh.val)
    (hrest : ∀ sc, isValid sc = false →
      (s.withBanks keys counters).steadyAt sc = 0 ∧ (s.withBanks keys counters).keyAt sc = false) :
    Inv P (s.withBanks keys counters) where
  __ := h
  steadyBound := hbound
  unscanned := hrest

/-- A scan gives only events of scancodes of VALID (R84). -/
theorem isValid_of_mem_scanEvents {raw : BitVec 128} {ev : Byte} (h : ev ∈ scanEvents P raw s) :
    isValid (evScancode ev) = true := by
  obtain ⟨sc, hsc, rfl⟩ := List.mem_map.1 h
  rw [evScancode_levelEvent]
  exact (mem_validScancodes sc).1 (List.mem_of_mem_filter hsc)

theorem toNat_afterCheck_le_threshold (P : Config.Params) (n : Byte) : (afterCheck P n).toNat ≤ P.steadyThresh.val := by
  unfold afterCheck
  split_ifs with hpast
  · exact Nat.zero_le _
  · exact Nat.le_of_not_lt hpast

theorem Inv.scanTick (h : Inv P s) (raw : BitVec 128) : Inv P (scanTick P raw s) := by
  have hpushed := h.pushAll (es := scanEvents P raw s) fun _ => isValid_of_mem_scanEvents
  have hbanks := hpushed.withBanks (keys := (Machine.scanTick P raw s).keyState)
    (counters := (Machine.scanTick P raw s).steady)
  rw [← scanTick_eq_pushAll] at hbanks
  refine hbanks (fun sc => ?_) (fun sc hsc => ?_)
  · rw [scanTick_steadyAt]
    split_ifs
    · exact toNat_afterCheck_le_threshold P _
    · exact h.steadyBound sc
  · rw [scanTick_steadyAt, scanTick_keyAt, hsc]
    exact h.unscanned sc hsc

/-! ### The consumer's operations -/

theorem Inv.typematicTick (h : Inv P s) : Inv P (typematicTick s) := by
  have hbound : s.tickedCountdown.toNat ≤ 252 := by
    have hcountdown := h.countdownBound
    have hrate := h.rateScaled.2
    unfold State.tickedCountdown
    split_ifs <;> bv_omega
  have harmed : s.tickedCountdown ≠ 0 → s.countdown ≠ 0 := fun hticked hidle => hticked (if_pos hidle)
  rw [typematicTick_eq]
  exact { h with
    countdownBound := hbound
    latchEligible := fun hcounts => h.latchEligible (harmed hcounts) }

/-- The pop's move of the read cursor. -/
theorem Inv.setQRd_advance (h : Inv P s) (hne : s.qWr ≠ s.qRd) : Inv P (s.setQRd (advance s.qRd)) where
  __ := h
  unreadWritten := by
    intro k hk
    rw [setQRd_occupancy hne] at hk
    rw [State.slotAfter_setQRd_advance]
    exact h.unreadWritten (k + 1) (by omega)

/-- The byte that a pop takes is an event of a key that exists. -/
theorem Inv.isValid_head (h : Inv P s) (hne : s.qWr ≠ s.qRd) : isValid (evScancode (s.ringRead s.qRd)) = true := by
  obtain ⟨b, hread, hb⟩ := h.unreadWritten 0 (State.occupancy_pos hne)
  rw [State.slotAfter_zero] at hread
  rw [State.ringRead, hread]
  exact hb

/-- The processing of an event of a key that exists. -/
theorem Inv.processEvent (h : Inv P s) {ev : Byte} (hev : isValid (evScancode ev) = true) : Inv P (processEvent P ev s) := by
  rw [processEvent_eq]
  exact { h with
    countdownBound := by
      by_cases heligible : repeatEligible P ev = true
      · simpa [heligible] using h.delayScaled.2
      · simp [heligible]
    latchEligible := by
      by_cases heligible : repeatEligible P ev = true
      · simp [heligible, hev]
      · simp [heligible]
    capsShown := by
      cases togglesCaps P ev
      · exact h.capsShown
      · rfl }

theorem Inv.loopFront (h : Inv P s) : Inv P (loopFront P s) := by
  by_cases hempty : s.qWr = s.qRd
  · rw [loopFront_of_eq P hempty]
    exact h.typematicTick
  · have hpopped := h.typematicTick.setQRd_advance (by simpa using hempty)
    rw [typematicTick_qRd] at hpopped
    rw [loopFront_of_ne P hempty]
    exact hpopped.processEvent (h.isValid_head hempty)

/-! ### Commands and resets -/

/-- INIT, and any start-up: what the ring holds is no longer unread. -/
theorem Inv.started (hform : s.qMem.wf = true) : Inv P s.started where
  ringForm := hform
  steadyBound sc := by simp
  unscanned sc _ := ⟨s.started_steadyAt sc, s.started_keyAt sc⟩
  delayScaled := by
    rw [State.started_delayTicks]
    decide
  rateScaled := by
    rw [State.started_rateTicks]
    decide
  countdownBound := Nat.zero_le _
  latchEligible hcounts := absurd rfl hcounts
  capsShown := rfl
  unreadWritten k hk := by
    rw [s.started.occupancy_eq_zero_iff.2 rfl] at hk
    exact absurd hk (Nat.not_lt_zero k)

theorem Inv.reset : Inv P State.reset := Inv.started (s := State.reset) rfl

theorem Inv.takeReset : Inv P s.takeReset := Inv.started (s := { s with qMem := [], epoch := s.epoch + 1 }) rfl

/-- What a parameter command writes is a multiple of 4, at most 252 (R63). -/
theorem scaledTicks_scaled (v : Value) : (scaledTicks v).toNat % 4 = 0 ∧ (scaledTicks v).toNat ≤ 252 := by
  rw [toNat_scaledTicks]
  exact ⟨Nat.mul_mod_right 4 _, four_mul_value_le v⟩

theorem patchOf_delay (i : Instr) : (patchOf i).delay = none ∨ ∃ v, (patchOf i).delay = some (scaledTicks v) := by
  cases i with
  | setDelay v => exact .inr ⟨v, rfl⟩
  | _ => exact .inl rfl

theorem patchOf_rate (i : Instr) : (patchOf i).rate = none ∨ ∃ v, (patchOf i).rate = some (scaledTicks v) := by
  cases i with
  | setRate v => exact .inr ⟨v, rfl⟩
  | _ => exact .inl rfl

theorem Inv.exec (h : Inv P s) {i : Instr} {t : State} (hnext : exec i s = .next t) : Inv P t := by
  by_cases hi : i = .init
  · subst hi
    obtain rfl := Host.Outcome.next.inj ((exec_init_eq_started s).symm.trans hnext)
    exact Inv.started h.ringForm
  · obtain rfl := Host.Outcome.next.inj ((exec_eq_apply hi s).symm.trans hnext)
    exact { h with
      delayScaled := by
        obtain hnone | ⟨v, hv⟩ := patchOf_delay i
        · simpa [Patch.apply, hnone] using h.delayScaled
        · simpa [Patch.apply, hv] using scaledTicks_scaled v
      rateScaled := by
        obtain hnone | ⟨v, hv⟩ := patchOf_rate i
        · simpa [Patch.apply, hnone] using h.rateScaled
        · simpa [Patch.apply, hv] using scaledTicks_scaled v }

theorem Inv.loopTick (h : Inv P s) {rx : Option Byte} {t : State} (hnext : loopTick P rx s = .next t) : Inv P t := by
  cases rx with
  | none =>
    obtain rfl := Host.Outcome.next.inj hnext
    exact h.loopFront
  | some b => exact h.loopFront.exec hnext

/-! ### Steps -/

theorem Inv.takeStimulus (h : Inv P s) : Inv P s.takeStimulus.2 := by
  cases hpending : s.pending with
  | nil =>
    rw [takeStimulus_nil hpending]
    exact { h with }
  | cons ev rest =>
    rw [takeStimulus_cons hpending]
    exact { h with }

theorem Inv.respond (h : Inv P s) {ev : Stimulus} {t : State} (hnext : respond P ev s = .next t) : Inv P t := by
  cases ev with
  | scanTick raw =>
    obtain rfl := Host.Outcome.next.inj hnext
    exact h.scanTick raw
  | loopTick rx => exact h.loopTick hnext
  | reset =>
    obtain rfl := Host.Outcome.next.inj hnext
    exact Inv.takeReset

/-! ### What a step sends -/

theorem dueRepeat_length_le (s : State) : s.dueRepeat.length ≤ 1 := by
  unfold State.dueRepeat
  split_ifs <;> simp

theorem wireBytes_length_le (P : Config.Params) (capsOn : Bool) (ev : Byte) : (wireBytes P capsOn ev).length ≤ 1 := by
  unfold wireBytes
  split_ifs <;> simp

/-- A byte is an event of a key that exists. -/
theorem Inv.isValid_of_mem_dueRepeat (h : Inv P s) {b : Byte} (hb : b ∈ s.dueRepeat) : isValid (evScancode b) = true := by
  unfold State.dueRepeat at hb
  split_ifs at hb with hlast
  · rw [List.mem_singleton.1 hb]
    exact (h.latchEligible (by rw [hlast]; decide)).2
  · exact absurd hb List.not_mem_nil

theorem isValid_of_mem_wireBytes {capsOn : Bool} {ev b : Byte} (hev : isValid (evScancode ev) = true)
    (hb : b ∈ wireBytes P capsOn ev) : isValid (evScancode b) = true := by
  unfold wireBytes at hb
  split_ifs at hb
  · exact absurd hb List.not_mem_nil
  · rw [List.mem_singleton.1 hb, evScancode_eventByte]
    exact isValid_capsSc P
  · rw [List.mem_singleton.1 hb]
    exact hev

/-- What `t` has sent beyond `s`: at most two bytes, each an event of a key that exists. -/
def SendsFewEvents (s t : State) : Prop :=
  ∃ bs, t.tx = s.tx ++ bs ∧ bs.length ≤ 2 ∧ ∀ b ∈ bs, isValid (evScancode b) = true

theorem SendsFewEvents.of_tx_eq {t : State} (h : t.tx = s.tx) : SendsFewEvents s t :=
  ⟨[], by rw [h, List.append_nil], Nat.zero_le _, fun _ hb => absurd hb List.not_mem_nil⟩

theorem Inv.loopTick_sends (h : Inv P s) {rx : Option Byte} {t : State} (hnext : Machine.loopTick P rx s = .next t) :
    SendsFewEvents s t := by
  obtain ⟨u, hu, htx⟩ := commandStep_next rx (Machine.loopFront P s)
  obtain rfl := Host.Outcome.next.inj (hu.symm.trans hnext)
  have hrepeat := dueRepeat_length_le s
  by_cases hempty : s.qWr = s.qRd
  · refine ⟨s.dueRepeat, ?_, by omega, fun _ => h.isValid_of_mem_dueRepeat⟩
    rw [htx, loopFront_tx, if_pos hempty, List.append_nil]
  · have hevent := wireBytes_length_le P s.capsState (s.ringRead s.qRd)
    refine ⟨s.dueRepeat ++ wireBytes P s.capsState (s.ringRead s.qRd), ?_, ?_, fun b hb => ?_⟩
    · rw [htx, loopFront_tx, if_neg hempty, List.append_assoc]
    · rw [List.length_append]
      omega
    · rcases List.mem_append.1 hb with hb | hb
      · exact h.isValid_of_mem_dueRepeat hb
      · exact isValid_of_mem_wireBytes (h.isValid_head hempty) hb

theorem Inv.respond_sends (h : Inv P s) {ev : Stimulus} {t : State} (hnext : Machine.respond P ev s = .next t) :
    SendsFewEvents s t := by
  cases ev with
  | scanTick raw =>
    obtain rfl := Host.Outcome.next.inj hnext
    refine SendsFewEvents.of_tx_eq ?_
    rw [scanTick_rest]
    rfl
  | loopTick rx => exact h.loopTick_sends hnext
  | reset =>
    obtain rfl := Host.Outcome.next.inj hnext
    exact SendsFewEvents.of_tx_eq rfl

theorem takeStimulus_tx (s : State) : s.takeStimulus.2.tx = s.tx := (congrArg State.tx (takeStimulus_rest s) :)

end

/-! ### The statements settled -/

/-- Settles O43: the reset state is a start-up state with nothing listed in the ring. -/
theorem resetMeetsTheInvariant : Obligations.ResetMeetsTheInvariant := fun _ => Inv.reset

/-- Settles O44: taking a stimulus keeps the invariant, and so does the response to each of the three. -/
theorem everyStepKeepsTheInvariant : Obligations.EveryStepKeepsTheInvariant :=
  fun _ _ h hnext => h.takeStimulus.respond hnext

/-- Settles O45: only a loop tick sends, the latched byte, an event as it is popped, or one of the caps-lock scancode. -/
theorem onlyEventsOfExistingKeysAreSent : Obligations.OnlyEventsOfExistingKeysAreSent := by
  intro s t h hnext
  have hsends := h.takeStimulus.respond_sends hnext
  rwa [SendsFewEvents, takeStimulus_tx] at hsends

end Sys2Proof.Machine
end
